-- ==== Sys2Proof/Word.lean ====
section
/-! DEFINITION. The words of the codec: bytes, 4-bit fields, the 16-bit command word and the 32-bit
packet word (00_scope.md R9; 30_encoding.md R70). Only the types stand here; everything that reads or
builds a word is in Decode.lean and Machine/. -/

namespace Sys2Proof

/-- An 8-bit unsigned value, R9. -/
abbrev Byte := BitVec 8

/-- A 4-bit field: a cable number, a Code Index Number, an OP or an RSV field, R71 and R80. -/
abbrev Nibble := BitVec 4

/-- The command word `CMD16`, R80. -/
abbrev CmdWord := BitVec 16

/-- A packet written as one word, `PKT32`, R55 and R71. -/
abbrev PktWord := BitVec 32

end Sys2Proof
end

