-- ==== Sys2Proof/Syntax.lean ====
section
/-! DEFINITION. The syntax: MessageTypes, packets, the instructions (one constructor per row of
spec/opcode_table.json) and the pseudo-instructions of the assembler syntax. -/

namespace Sys2Proof

/-- The eighteen MessageTypes of 30_encoding.md R75. -/
inductive MessageType where
  | noteOff
  | noteOn
  | afterTouchPoly
  | controlChange
  | programChange
  | afterTouchChannel
  | pitchBend
  | sysEx
  | timeCodeQuarterFrame
  | songPosition
  | songSelect
  | tuneRequest
  | clock
  | start
  | continue_
  | stop
  | activeSensing
  | systemReset
  deriving DecidableEq, Repr

/-- A packet: "exactly 4 bytes", byte 0 the header (20_memory.md R52; 10_state.md R27). -/
structure Packet where
  /-- Byte 0, `EVENT`: cable number in the high nibble, CIN in the low nibble. -/
  event : Byte
  /-- Payload slot 0. -/
  data1 : Byte
  /-- Payload slot 1. -/
  data2 : Byte
  /-- Payload slot 2. -/
  data3 : Byte
  deriving DecidableEq, Repr

/-- The instructions: the 23 command words of R80 (one per BEGIN type) and the 16 packets of R76, which a
READ is answered with (log 9).  A packet's operands are its cable number and its three data bytes. -/
inductive Instr where
  /-- `INIT`, R160. -/
  | init
  /-- `DEINIT`, R163. -/
  | deinit
  /-- `BEGIN NOTE_OFF`, R100. -/
  | beginNoteOff
  /-- `BEGIN NOTE_ON`, R100. -/
  | beginNoteOn
  /-- `BEGIN AFTER_TOUCH_POLY`, R100. -/
  | beginAfterTouchPoly
  /-- `BEGIN CONTROL_CHANGE`, R100. -/
  | beginControlChange
  /-- `BEGIN PROGRAM_CHANGE`, R100. -/
  | beginProgramChange
  /-- `BEGIN AFTER_TOUCH_CHANNEL`, R100. -/
  | beginAfterTouchChannel
  /-- `BEGIN PITCH_BEND`, R100. -/
  | beginPitchBend
  /-- `BEGIN SYS_EX`, R100. -/
  | beginSysEx
  /-- `BEGIN TIME_CODE_QUARTER_FRAME`, R100. -/
  | beginTimeCodeQuarterFrame
  /-- `BEGIN SONG_POSITION`, R100. -/
  | beginSongPosition
  /-- `BEGIN SONG_SELECT`, R100. -/
  | beginSongSelect
  /-- `BEGIN TUNE_REQUEST`, R100. -/
  | beginTuneRequest
  /-- `BEGIN CLOCK`, R100. -/
  | beginClock
  /-- `BEGIN START`, R100. -/
  | beginStart
  /-- `BEGIN CONTINUE`, R100. -/
  | beginContinue
  /-- `BEGIN STOP`, R100. -/
  | beginStop
  /-- `BEGIN ACTIVE_SENSING`, R100. -/
  | beginActiveSensing
  /-- `BEGIN SYSTEM_RESET`, R100. -/
  | beginSystemReset
  /-- `WRITE b`, R102. -/
  | write (b : Byte)
  /-- `END`, R104. -/
  | endMessage
  /-- `READ`, R140. -/
  | read
  /-- Packet of CIN 0x0, reserved, miscellaneous function codes: unrecognised; R76, R143. -/
  | cin0 (cn : Nibble) (d1 d2 d3 : Byte)
  /-- Packet of CIN 0x1, reserved, cable events: unrecognised; R76, R143. -/
  | cin1 (cn : Nibble) (d1 d2 d3 : Byte)
  /-- Packet of CIN 0x2, two-byte system common; R76, R143. -/
  | cin2 (cn : Nibble) (d1 d2 d3 : Byte)
  /-- Packet of CIN 0x3, three-byte system common; R76, R143. -/
  | cin3 (cn : Nibble) (d1 d2 d3 : Byte)
  /-- Packet of CIN 0x4, sysex starts or continues; R76, R143. -/
  | cin4 (cn : Nibble) (d1 d2 d3 : Byte)
  /-- Packet of CIN 0x5, single-byte system common, or sysex ends with one byte; R76, R143. -/
  | cin5 (cn : Nibble) (d1 d2 d3 : Byte)
  /-- Packet of CIN 0x6, sysex ends with two bytes; R76, R143. -/
  | cin6 (cn : Nibble) (d1 d2 d3 : Byte)
  /-- Packet of CIN 0x7, sysex ends with three bytes; R76, R143. -/
  | cin7 (cn : Nibble) (d1 d2 d3 : Byte)
  /-- Packet of CIN 0x8, note-off; R76, R143. -/
  | cin8 (cn : Nibble) (d1 d2 d3 : Byte)
  /-- Packet of CIN 0x9, note-on; R76, R143. -/
  | cin9 (cn : Nibble) (d1 d2 d3 : Byte)
  /-- Packet of CIN 0xA, poly aftertouch; R76, R143. -/
  | cinA (cn : Nibble) (d1 d2 d3 : Byte)
  /-- Packet of CIN 0xB, control change; R76, R143. -/
  | cinB (cn : Nibble) (d1 d2 d3 : Byte)
  /-- Packet of CIN 0xC, program change; R76, R143. -/
  | cinC (cn : Nibble) (d1 d2 d3 : Byte)
  /-- Packet of CIN 0xD, channel aftertouch; R76, R143. -/
  | cinD (cn : Nibble) (d1 d2 d3 : Byte)
  /-- Packet of CIN 0xE, pitch bend; R76, R143. -/
  | cinE (cn : Nibble) (d1 d2 d3 : Byte)
  /-- Packet of CIN 0xF, single byte; R76, R143. -/
  | cinF (cn : Nibble) (d1 d2 d3 : Byte)
  deriving DecidableEq, Repr

/-- The pseudo-instructions of the assembler syntax, 30_encoding.md R86. -/
inductive Pseudo where
  /-- `SEND <T>, b0, ...`. -/
  | send (t : MessageType) (bytes : List Byte)
  /-- `SYSEX b1, ..., bn`. -/
  | sysex (body : List Byte)
  /-- `RECV n`. -/
  | recv (n : Nat)
  deriving DecidableEq, Repr

end Sys2Proof
end

