-- ==== Sys2Proof/Config.lean ====
section
/-! DEFINITION. What an instance of the codec fixes (the five parameters of 00_scope.md R7) and the
free values: the two parameters the spec leaves OPEN and the transport's answers (60_exceptions.md R187). -/

namespace Sys2Proof

/-- The five parameters of R7, fixed for an instance.  State carries them and no command writes them, so
a statement about every state is one about every value of them (log 3). -/
structure Params where
  /-- `P_CABLE`, R24. -/
  cable : Nibble
  /-- `P_TXINDEX_LIMIT`, a natural of at least 3. -/
  txIndexLimit : Nat
  /-- `P_BEGIN_CLEARS_DATA`, D7. -/
  beginClearsData : Bool
  /-- `P_STOP_GROUP_ZERO_FILL`, D8. -/
  stopGroupZeroFill : Bool
  /-- `P_INIT_CLEARS_STATE`, D10. -/
  initClearsState : Bool
  deriving DecidableEq, Repr

/-- OPEN (D9): how far `P_TXINDEX_LIMIT` lies above its least value 3 (log 3). -/
opaque Config.txIndexLimitAbove : Nat

/-- OPEN (D10): `P_INIT_CLEARS_STATE` (log 3). -/
opaque Config.initClearsState : Bool

/-- The parameters of the instance `State.reset` describes: the spec's defaults (D6, D7, D8) where it
gives one, a free value where it leaves the parameter OPEN (D9, D10). -/
def Config.params : Params where
  cable := 0x0
  txIndexLimit := Config.txIndexLimitAbove + 3
  beginClearsData := true
  stopGroupZeroFill := true
  initClearsState := Config.initClearsState

/-- A draw (R187, D17): what `HwInit` answers at a call for which State lists no answer (log 2). -/
opaque Config.initAnswer : Nat → Bool

/-- A draw (R187, D17): what `HwDeInit` answers at a call for which State lists no answer (log 2). -/
opaque Config.deInitAnswer : Nat → Bool

/-- A draw (R187, D17): what `HwWrite` answers at a call for which State lists no answer (log 2). -/
opaque Config.writeAnswer : Nat → Bool

/-- A draw (R187, D17): what `HwRead` answers at a call for which State lists no answer (log 2). -/
opaque Config.readAnswer : Nat → Option Packet

end Sys2Proof
end

