-- ==== Sys2Proof/Machine/State.lean ====
section
/-! DEFINITION. The state of the codec (10_state.md R20 to R37), its reset, and the reasons a step stops. -/

namespace Sys2Proof.Machine

/-- The codec's own fault codes, R30 and R176. -/
inductive FaultCode where
  | none
  | noTransmission
  | txOverrun
  | txIndexOverflow
  deriving DecidableEq, Repr

/-- A transport event, R32. -/
inductive Event where
  /-- `Wr(pkt, ok)`. -/
  | wr (pkt : Packet) (ok : Bool)
  /-- `Rd(some pkt)` or `Rd(none)`. -/
  | rd (answer : Option Packet)
  /-- `Init(ok)`. -/
  | init (ok : Bool)
  /-- `DeInit(ok)`. -/
  | deInit (ok : Bool)
  deriving DecidableEq, Repr

/-- The outputs of a command, R22 and R23. -/
structure Output where
  /-- `result`. -/
  result : Bool
  /-- `rdata`: the byte READ delivers. -/
  rdata : Option Byte
  deriving DecidableEq, Repr

/-- The receive buffer, three bytes, R28. -/
structure RxBuffer where
  /-- `rxBuffer[0]`. -/
  b0 : Byte
  /-- `rxBuffer[1]`. -/
  b1 : Byte
  /-- `rxBuffer[2]`. -/
  b2 : Byte
  deriving DecidableEq, Repr

/-- The transport, the outside agent of R186: the answers it will give, oldest first.  A call for which
none is listed is answered by the free value of its call number (R187; log 2). -/
structure Transport where
  /-- Answers of `HwInit`. -/
  initAnswers : List Bool
  /-- Answers of `HwDeInit`. -/
  deInitAnswers : List Bool
  /-- Answers of `HwWrite`. -/
  writeAnswers : List Bool
  /-- Answers of `HwRead`. -/
  readAnswers : List (Option Packet)
  /-- The number of transport calls made. -/
  calls : Nat
  deriving DecidableEq, Repr

/-- The state: the record of R37, the parameters of R7 beside it, the outputs of the last command, and the
two outside agents. -/
structure State where
  /-- R25: the MessageType in progress; none is `NONE` (log 12). -/
  activeType : Option MessageType
  /-- R26: payload bytes written into the current message. -/
  txIndex : Nat
  /-- R27: the packet being assembled. -/
  txBuffer : Packet
  /-- R28: payload bytes of the last classified packet, in reverse. -/
  rxBuffer : RxBuffer
  /-- R29: bytes still to deliver. -/
  rxIndex : Fin 4
  /-- R30: the sticky fault code. -/
  fault : FaultCode
  /-- R31: a word without meaning was met. -/
  refused : Bool
  /-- R32: the transport calls made, oldest first. -/
  trace : List Event
  /-- R7 and R24: the instance's parameters; no command writes them. -/
  params : Params
  /-- R22, R23: what the last command returned; none before the first command and after a command that
  faulted.  Nothing reads it (log 6). -/
  out : Option Output
  /-- The caller: the command words it has issued that the codec has not taken, oldest first (log 1). -/
  commands : List CmdWord
  /-- The transport. -/
  transport : Transport
  deriving DecidableEq, Repr

/-- Why a step stops. -/
inductive Fault where
  /-- Raised by every command, and by a step, where the codec's `fault` is not NONE: "no command word is
  performed and the model has no further step" (R173).  Safe: the model stops where a real block does
  something (D13). -/
  | quiescent (code : FaultCode)
  deriving DecidableEq, Repr

/-- Why an instruction has no meaning. -/
inductive Refusal where
  /-- An instruction not modelled yet: raised by an arm of exec; no arm raises it now.  Safe. -/
  | notModelled (mnemonic : String)
  deriving DecidableEq, Repr

/-- The state after the creation of an instance with the parameters `c`, R36 and R200.  The last three
fields are the model's own (log 5). -/
def State.resetWith (c : Params) : State where
  activeType := none
  txIndex := 0
  txBuffer := ⟨0x00, 0x00, 0x00, 0x00⟩
  rxBuffer := ⟨0x00, 0x00, 0x00⟩
  rxIndex := 0
  fault := .none
  refused := false
  trace := []
  params := c
  out := none
  commands := []
  transport := ⟨[], [], [], [], 0⟩

/-- The machine right after reset, R200, with the parameters of Config (log 3). -/
def State.reset : State := State.resetWith Config.params

end Sys2Proof.Machine
end

