-- ==== Sys2Proof/Machine/Flags.lean ====
section
/-! DEFINITION. What a command returns.  The codec has no flags and no condition codes (10_state.md R22);
its `result` and `rdata` outputs are set here and nowhere else. -/

namespace Sys2Proof.Machine

/-- `return (r, d)`, R10: the outputs of the command that ends. -/
def State.returns (s : State) (result : Bool) (rdata : Option Byte) : State :=
  { s with out := some ⟨result, rdata⟩ }

/-- A command that ends without a result, R172. -/
def State.noResult (s : State) : State := { s with out := none }

end Sys2Proof.Machine
end

