-- ==== Sys2Proof/Decode.lean ====
section
/-! DEFINITION. The encodings of 30_encoding.md: the fields of the two formats, the MessageType codes, the
decoders (total, rejecting by name), and after them the encoder. -/

namespace Sys2Proof

/-! ### Fields of the packet, R71 -/

/-- Header assembly, R73: `{P_CABLE[3:0], c[3:0]}`. -/
def header (cable cin : Nibble) : Byte := cable ++ cin

/-- The Code Index Number, `event[3:0]`, R74. -/
def Packet.cin (p : Packet) : Nibble := p.event.extractLsb' 0 4

/-- The cable number, `event[7:4]`, R53. -/
def Packet.cable (p : Packet) : Nibble := p.event.extractLsb' 4 4

/-- The packet a `PKT32` word writes, R71: `event` is bits [31:24]. -/
def Packet.ofWord (w : PktWord) : Packet where
  event := w.extractLsb' 24 8
  data1 := w.extractLsb' 16 8
  data2 := w.extractLsb' 8 8
  data3 := w.extractLsb' 0 8

/-- The `PKT32` word of a packet, R71. -/
def Packet.toWord (p : Packet) : PktWord := p.event ++ p.data1 ++ p.data2 ++ p.data3

/-! ### Fields of the command word, R80 -/

/-- `RSV`, bits [15:12]. -/
def cmdRsv (w : CmdWord) : Nibble := w.extractLsb' 12 4

/-- `OP`, bits [11:8]. -/
def cmdOp (w : CmdWord) : Nibble := w.extractLsb' 8 4

/-- `ARG`, bits [7:0]. -/
def cmdArg (w : CmdWord) : Byte := w.extractLsb' 0 8

/-- A command word with `RSV` = 0000. -/
def mkCmd (op : Nibble) (arg : Byte) : CmdWord := 0x0#4 ++ op ++ arg

/-! ### MessageType codes, R75 -/

/-- The 8-bit code of a MessageType. -/
def MessageType.code : MessageType → Byte
  | .noteOff => 0x80
  | .noteOn => 0x90
  | .afterTouchPoly => 0xA0
  | .controlChange => 0xB0
  | .programChange => 0xC0
  | .afterTouchChannel => 0xD0
  | .pitchBend => 0xE0
  | .sysEx => 0xF0
  | .timeCodeQuarterFrame => 0xF1
  | .songPosition => 0xF2
  | .songSelect => 0xF3
  | .tuneRequest => 0xF6
  | .clock => 0xF8
  | .start => 0xFA
  | .continue_ => 0xFB
  | .stop => 0xFC
  | .activeSensing => 0xFE
  | .systemReset => 0xFF

/-- Every MessageType, in the order of R75. -/
def MessageType.all : List MessageType :=
  [.noteOff, .noteOn, .afterTouchPoly, .controlChange, .programChange, .afterTouchChannel,
   .pitchBend, .sysEx, .timeCodeQuarterFrame, .songPosition, .songSelect, .tuneRequest,
   .clock, .start, .continue_, .stop, .activeSensing, .systemReset]

/-- The MessageType of a code; none where the byte is no code of R75. -/
def MessageType.ofCode (b : Byte) : Option MessageType := MessageType.all.find? (fun t => t.code == b)

/-- The BEGIN instruction of a MessageType. -/
def MessageType.beginInstr : MessageType → Instr
  | .noteOff => .beginNoteOff
  | .noteOn => .beginNoteOn
  | .afterTouchPoly => .beginAfterTouchPoly
  | .controlChange => .beginControlChange
  | .programChange => .beginProgramChange
  | .afterTouchChannel => .beginAfterTouchChannel
  | .pitchBend => .beginPitchBend
  | .sysEx => .beginSysEx
  | .timeCodeQuarterFrame => .beginTimeCodeQuarterFrame
  | .songPosition => .beginSongPosition
  | .songSelect => .beginSongSelect
  | .tuneRequest => .beginTuneRequest
  | .clock => .beginClock
  | .start => .beginStart
  | .continue_ => .beginContinue
  | .stop => .beginStop
  | .activeSensing => .beginActiveSensing
  | .systemReset => .beginSystemReset

/-- The MessageType an instruction begins; none where it is no BEGIN. -/
def Instr.beginType (i : Instr) : Option MessageType := MessageType.all.find? (fun t => t.beginInstr == i)

/-! ### Decoders -/

/-- Why a command word is refused, the four tests of R83 in their order. -/
inductive DecodeError where
  /-- `RSV` is not 0. -/
  | reservedBits
  /-- `OP` is 0x0 or 0x7 to 0xF. -/
  | undefinedOp
  /-- BEGIN with an `ARG` that is no code of R75. -/
  | unknownMessageType
  /-- INIT, DEINIT, END or READ with a non-zero `ARG`. -/
  | nonzeroArg
  deriving DecidableEq, Repr

/-- An operation that takes no operand: `ARG` must be 0x00, R83 (4). -/
def noOperand (i : Instr) (arg : Byte) : Except DecodeError Instr :=
  if arg = 0x00 then .ok i else .error .nonzeroArg

/-- BEGIN: `ARG` must be a code of R75, R83 (3). -/
def decodeBegin (arg : Byte) : Except DecodeError Instr :=
  match MessageType.ofCode arg with
  | some t => .ok t.beginInstr
  | none => .error .unknownMessageType

/-- The decoder of command words, R80, R81, R83. -/
def decodeCmd (w : CmdWord) : Except DecodeError Instr :=
  if cmdRsv w = 0x0 then
    match (cmdOp w).toNat with
    | 1 => noOperand .init (cmdArg w)
    | 2 => noOperand .deinit (cmdArg w)
    | 3 => decodeBegin (cmdArg w)
    | 4 => .ok (.write (cmdArg w))
    | 5 => noOperand .endMessage (cmdArg w)
    | 6 => noOperand .read (cmdArg w)
    | _ => .error .undefinedOp
  else .error .reservedBits

/-- The table row a packet belongs to, R76: all sixteen CIN values are rows, so this is total. -/
def decodePacket (p : Packet) : Instr :=
  match p.cin.toNat with
  | 0 => .cin0 p.cable p.data1 p.data2 p.data3
  | 1 => .cin1 p.cable p.data1 p.data2 p.data3
  | 2 => .cin2 p.cable p.data1 p.data2 p.data3
  | 3 => .cin3 p.cable p.data1 p.data2 p.data3
  | 4 => .cin4 p.cable p.data1 p.data2 p.data3
  | 5 => .cin5 p.cable p.data1 p.data2 p.data3
  | 6 => .cin6 p.cable p.data1 p.data2 p.data3
  | 7 => .cin7 p.cable p.data1 p.data2 p.data3
  | 8 => .cin8 p.cable p.data1 p.data2 p.data3
  | 9 => .cin9 p.cable p.data1 p.data2 p.data3
  | 10 => .cinA p.cable p.data1 p.data2 p.data3
  | 11 => .cinB p.cable p.data1 p.data2 p.data3
  | 12 => .cinC p.cable p.data1 p.data2 p.data3
  | 13 => .cinD p.cable p.data1 p.data2 p.data3
  | 14 => .cinE p.cable p.data1 p.data2 p.data3
  | _ => .cinF p.cable p.data1 p.data2 p.data3

/-- An instruction's bits: one of the two formats of R70. -/
inductive Encoded where
  /-- A command word. -/
  | cmd (w : CmdWord)
  /-- A packet word. -/
  | pkt (w : PktWord)
  deriving DecidableEq, Repr

/-- The decoder of both formats. -/
def decode : Encoded → Except DecodeError Instr
  | .cmd w => decodeCmd w
  | .pkt w => .ok (decodePacket (Packet.ofWord w))

/-- The instruction read from a row of the opcode table: a 16-bit row is a command word, a 32-bit row a
packet word with bit 0 the least significant bit of `data3` (R71; log 10).  No row has another width. -/
def decodeTableWord (nbits w : Nat) : Option Instr :=
  if nbits = 32 then some (decodePacket (Packet.ofWord (BitVec.ofNat 32 w)))
  else if nbits = 16 then (decodeCmd (BitVec.ofNat 16 w)).toOption
  else none

/-! ### Encoder -/

/-- The packet with the given cable number, CIN and data bytes. -/
def mkPacket (cn cin : Nibble) (d1 d2 d3 : Byte) : Packet where
  event := header cn cin
  data1 := d1
  data2 := d2
  data3 := d3

/-- The bits of an instruction, from the tables of R75, R76 and R80. -/
def encode : Instr → Encoded
  | .init => .cmd (mkCmd 0x1 0x00)
  | .deinit => .cmd (mkCmd 0x2 0x00)
  | .beginNoteOff => .cmd (mkCmd 0x3 (MessageType.code .noteOff))
  | .beginNoteOn => .cmd (mkCmd 0x3 (MessageType.code .noteOn))
  | .beginAfterTouchPoly => .cmd (mkCmd 0x3 (MessageType.code .afterTouchPoly))
  | .beginControlChange => .cmd (mkCmd 0x3 (MessageType.code .controlChange))
  | .beginProgramChange => .cmd (mkCmd 0x3 (MessageType.code .programChange))
  | .beginAfterTouchChannel => .cmd (mkCmd 0x3 (MessageType.code .afterTouchChannel))
  | .beginPitchBend => .cmd (mkCmd 0x3 (MessageType.code .pitchBend))
  | .beginSysEx => .cmd (mkCmd 0x3 (MessageType.code .sysEx))
  | .beginTimeCodeQuarterFrame => .cmd (mkCmd 0x3 (MessageType.code .timeCodeQuarterFrame))
  | .beginSongPosition => .cmd (mkCmd 0x3 (MessageType.code .songPosition))
  | .beginSongSelect => .cmd (mkCmd 0x3 (MessageType.code .songSelect))
  | .beginTuneRequest => .cmd (mkCmd 0x3 (MessageType.code .tuneRequest))
  | .beginClock => .cmd (mkCmd 0x3 (MessageType.code .clock))
  | .beginStart => .cmd (mkCmd 0x3 (MessageType.code .start))
  | .beginContinue => .cmd (mkCmd 0x3 (MessageType.code .continue_))
  | .beginStop => .cmd (mkCmd 0x3 (MessageType.code .stop))
  | .beginActiveSensing => .cmd (mkCmd 0x3 (MessageType.code .activeSensing))
  | .beginSystemReset => .cmd (mkCmd 0x3 (MessageType.code .systemReset))
  | .write b => .cmd (mkCmd 0x4 b)
  | .endMessage => .cmd (mkCmd 0x5 0x00)
  | .read => .cmd (mkCmd 0x6 0x00)
  | .cin0 cn d1 d2 d3 => .pkt (mkPacket cn 0x0 d1 d2 d3).toWord
  | .cin1 cn d1 d2 d3 => .pkt (mkPacket cn 0x1 d1 d2 d3).toWord
  | .cin2 cn d1 d2 d3 => .pkt (mkPacket cn 0x2 d1 d2 d3).toWord
  | .cin3 cn d1 d2 d3 => .pkt (mkPacket cn 0x3 d1 d2 d3).toWord
  | .cin4 cn d1 d2 d3 => .pkt (mkPacket cn 0x4 d1 d2 d3).toWord
  | .cin5 cn d1 d2 d3 => .pkt (mkPacket cn 0x5 d1 d2 d3).toWord
  | .cin6 cn d1 d2 d3 => .pkt (mkPacket cn 0x6 d1 d2 d3).toWord
  | .cin7 cn d1 d2 d3 => .pkt (mkPacket cn 0x7 d1 d2 d3).toWord
  | .cin8 cn d1 d2 d3 => .pkt (mkPacket cn 0x8 d1 d2 d3).toWord
  | .cin9 cn d1 d2 d3 => .pkt (mkPacket cn 0x9 d1 d2 d3).toWord
  | .cinA cn d1 d2 d3 => .pkt (mkPacket cn 0xA d1 d2 d3).toWord
  | .cinB cn d1 d2 d3 => .pkt (mkPacket cn 0xB d1 d2 d3).toWord
  | .cinC cn d1 d2 d3 => .pkt (mkPacket cn 0xC d1 d2 d3).toWord
  | .cinD cn d1 d2 d3 => .pkt (mkPacket cn 0xD d1 d2 d3).toWord
  | .cinE cn d1 d2 d3 => .pkt (mkPacket cn 0xE d1 d2 d3).toWord
  | .cinF cn d1 d2 d3 => .pkt (mkPacket cn 0xF d1 d2 d3).toWord

/-- The command word of an instruction the caller can issue; none for a packet. -/
def Instr.cmdWord (i : Instr) : Option CmdWord :=
  match encode i with
  | .cmd w => some w
  | .pkt _ => none

/-- The packet an instruction is; none for a command. -/
def Instr.packet (i : Instr) : Option Packet :=
  match encode i with
  | .cmd _ => none
  | .pkt w => some (Packet.ofWord w)

end Sys2Proof
end

