-- ==== Sys2Proof/Machine/Operands.lean ====
section
/-! DEFINITION. The tables that give a command its operands' meaning: transmit CIN and expected length per
MessageType (30_encoding.md R75, R77), receive class per CIN (R76, R85), stop CINs (R78), payload slots. -/

namespace Sys2Proof

/-- `CinOf(type)`, the "CIN on transmit" column of R75. -/
def MessageType.cinOf : MessageType → Nibble
  | .noteOff => 0x8
  | .noteOn => 0x9
  | .afterTouchPoly => 0xA
  | .controlChange => 0xB
  | .programChange => 0xC
  | .afterTouchChannel => 0xD
  | .pitchBend => 0xE
  | .sysEx => 0x4
  | .timeCodeQuarterFrame => 0x2
  | .songPosition => 0x3
  | .songSelect => 0x2
  | .tuneRequest => 0x5
  | .clock => 0xF
  | .start => 0xF
  | .continue_ => 0xF
  | .stop => 0xF
  | .activeSensing => 0xF
  | .systemReset => 0xF

/-- `LenOf(type)`, the L column of R75; none where the table says variable. -/
def MessageType.lenOf : MessageType → Option Nat
  | .noteOff => some 3
  | .noteOn => some 3
  | .afterTouchPoly => some 3
  | .controlChange => some 3
  | .programChange => some 2
  | .afterTouchChannel => some 2
  | .pitchBend => some 3
  | .sysEx => none
  | .timeCodeQuarterFrame => some 2
  | .songPosition => some 3
  | .songSelect => some 2
  | .tuneRequest => some 1
  | .clock => some 1
  | .start => some 1
  | .continue_ => some 1
  | .stop => some 1
  | .activeSensing => some 1
  | .systemReset => some 1

/-- The receive classes of R76: a payload of 1, 2 or 3 bytes, or an unrecognised packet. -/
inductive RxClass where
  | one
  | two
  | three
  | unrecognised
  deriving DecidableEq, Repr

/-- The number of payload bytes of a class; none where the packet is unrecognised. -/
def RxClass.length : RxClass → Option Nat
  | .one => some 1
  | .two => some 2
  | .three => some 3
  | .unrecognised => none

/-- `RxLen(cin)`, R85. -/
def rxClass (cin : Nibble) : RxClass :=
  match cin.toNat with
  | 0x5 | 0xF => .one
  | 0x2 | 0x6 | 0xC | 0xD => .two
  | 0x3 | 0x4 | 0x7 | 0x8 | 0x9 | 0xA | 0xB | 0xE => .three
  | _ => .unrecognised

/-- The payload a receiver takes from a packet, in message order: `data1 .. dataL`, R72; none of an
unrecognised packet. -/
def Packet.payload (p : Packet) : List Byte :=
  match rxClass p.cin with
  | .one => [p.data1]
  | .two => [p.data1, p.data2]
  | .three => [p.data1, p.data2, p.data3]
  | .unrecognised => []

/-- The start marker, R12. -/
def sysexStartByte : Byte := 0xF0

/-- The stop marker, R12 and R122. -/
def sysexStopByte : Byte := 0xF7

/-- `SYSEX_START`, R78. -/
def sysexStartCin : Nibble := 0x4

/-- `StopCin(p)`, R78 and R122, for a group position p of 0, 1 or 2. -/
def stopCin : Nat → Nibble
  | 0 => 0x5
  | 1 => 0x6
  | _ => 0x7

/-- `txBuffer[1 + k] <- b` for payload slot k of 0, 1 or 2 (R27).  No command reaches another k: it faults
first (R10, R175; log 13). -/
def Packet.setSlot (p : Packet) (k : Nat) (b : Byte) : Packet :=
  match k with
  | 0 => { p with data1 := b }
  | 1 => { p with data2 := b }
  | 2 => { p with data3 := b }
  | _ => p

/-- The packet after BEGIN, R100: header from the type, data cleared when `P_BEGIN_CLEARS_DATA`. -/
def beginPacket (c : Params) (t : MessageType) (k : Packet) : Packet :=
  if c.beginClearsData then
    { event := header c.cable t.cinOf, data1 := 0x00, data2 := 0x00, data3 := 0x00 }
  else { k with event := header c.cable t.cinOf }

/-- The header and zero fill a sysex byte causes before it is stored, R121 to R124 (log 17). -/
def sysexHeader (c : Params) (p : Nat) (b : Byte) (k : Packet) : Packet :=
  if b = sysexStopByte then
    if p = 0 ∧ c.stopGroupZeroFill then
      { k with event := header c.cable (stopCin p), data2 := 0x00, data3 := 0x00 }
    else { k with event := header c.cable (stopCin p) }
  else if p = 0 then
    { k with event := header c.cable sysexStartCin, data2 := 0x00, data3 := 0x00 }
  else k

/-- The packet after a sysex byte at group position p, R120 and R125. -/
def sysexPacket (c : Params) (p : Nat) (b : Byte) (k : Packet) : Packet :=
  (sysexHeader c p b k).setSlot p b

/-- Whether a sysex byte at group position p flushes, R126. -/
def autoFlushes (p : Nat) (b : Byte) : Bool := p == 2 && b != sysexStopByte

end Sys2Proof
end

