-- ==== Sys2Proof/Machine/Ops.lean ====
section
/-! DEFINITION. The shared operations: performing a command (60_exceptions.md R173), raising a fault (R172),
the four transport calls (R186), and the two buffers' reads and writes. -/

namespace Sys2Proof.Machine

/-- The 2-bit code of a fault, R30 and R176. -/
def FaultCode.code : FaultCode → BitVec 2
  | .none => 0
  | .noTransmission => 1
  | .txOverrun => 2
  | .txIndexOverflow => 3

/-- `activeType` as the 8-bit code it is stored as, R25: NONE is 0x00. -/
def State.activeTypeCode (s : State) : Byte :=
  match s.activeType with
  | some t => t.code
  | none => 0x00

/-- The codec takes the word at the front of the caller's stream, R11. -/
def State.takeCommand (s : State) : State := { s with commands := s.commands.tail }

/-- Perform a command: nothing is performed by a faulted codec (R173); otherwise the word is taken and the
command's effect is one atomic step (R11). -/
def State.perform (effect : State → State) (s : State) : Host.Outcome State Fault Refusal :=
  if s.fault = .none then .next (effect s.takeCommand) else .fault (.quiescent s.fault)

/-- `raise Fault(code)`, R172: sets `fault`, writes no other codec field, calls no transport primitive and
ends the command without a result.  There is no handler and no return (R170, R181). -/
def State.raiseFault (s : State) (code : FaultCode) : State := { s.noResult with fault := code }

/-! ### Transport calls, R186 and R187 -/

/-- What `HwInit` answers next. -/
def Transport.initAnswer (t : Transport) : Bool := t.initAnswers.headD (Config.initAnswer t.calls)

/-- What `HwDeInit` answers next. -/
def Transport.deInitAnswer (t : Transport) : Bool := t.deInitAnswers.headD (Config.deInitAnswer t.calls)

/-- What `HwWrite` answers next. -/
def Transport.writeAnswer (t : Transport) : Bool := t.writeAnswers.headD (Config.writeAnswer t.calls)

/-- What `HwRead` answers next. -/
def Transport.readAnswer (t : Transport) : Option Packet := t.readAnswers.headD (Config.readAnswer t.calls)

/-- The transport after it has answered `HwInit`. -/
def Transport.afterInit (t : Transport) : Transport :=
  { t with initAnswers := t.initAnswers.tail, calls := t.calls + 1 }

/-- The transport after it has answered `HwDeInit`. -/
def Transport.afterDeInit (t : Transport) : Transport :=
  { t with deInitAnswers := t.deInitAnswers.tail, calls := t.calls + 1 }

/-- The transport after it has answered `HwWrite`. -/
def Transport.afterWrite (t : Transport) : Transport :=
  { t with writeAnswers := t.writeAnswers.tail, calls := t.calls + 1 }

/-- The transport after it has answered `HwRead`. -/
def Transport.afterRead (t : Transport) : Transport :=
  { t with readAnswers := t.readAnswers.tail, calls := t.calls + 1 }

/-- `HwInit()` and its event; the command returns the answer (R160). -/
def State.hwInit (s : State) : State :=
  State.returns
    { s with trace := s.trace ++ [.init s.transport.initAnswer], transport := s.transport.afterInit }
    s.transport.initAnswer none

/-- `HwDeInit()` and its event; the command returns the answer (R163). -/
def State.hwDeInit (s : State) : State :=
  State.returns
    { s with trace := s.trace ++ [.deInit s.transport.deInitAnswer], transport := s.transport.afterDeInit }
    s.transport.deInitAnswer none

/-- `HwWrite(txBuffer)` and its event, R57: a copy of the buffer is handed over, the buffer stays as it is;
the command returns the answer (R104, R126). -/
def State.hwWrite (s : State) : State :=
  State.returns
    { s with trace := s.trace ++ [.wr s.txBuffer s.transport.writeAnswer], transport := s.transport.afterWrite }
    s.transport.writeAnswer none

/-- `HwRead()` answered `r`, and its event, R140. -/
def State.hwRead (s : State) (r : Option Packet) : State :=
  { s with trace := s.trace ++ [.rd r], transport := s.transport.afterRead }

/-! ### The receive buffer, R28 and R29 -/

/-- `rxBuffer[k]` for k of 0, 1 or 2; no command reads another (R10, R29; log 13). -/
def RxBuffer.get (b : RxBuffer) : Nat → Byte
  | 0 => b.b0
  | 1 => b.b1
  | _ => b.b2

/-- The fetched payload is stored in reverse and counted, R143; none of an unrecognised packet. -/
def State.classify (s : State) (c : RxClass) (p : Packet) : Option State :=
  match c with
  | .one => some { s with rxBuffer := { s.rxBuffer with b0 := p.data1 }, rxIndex := 1 }
  | .two => some { s with rxBuffer := { s.rxBuffer with b0 := p.data2, b1 := p.data1 }, rxIndex := 2 }
  | .three => some { s with rxBuffer := ⟨p.data3, p.data2, p.data1⟩, rxIndex := 3 }
  | .unrecognised => none

/-- Delivery, R144: output `rxBuffer[rxIndex - 1]` and decrement `rxIndex`; used where `rxIndex` is not 0. -/
def State.deliver (s : State) : State :=
  State.returns { s with rxIndex := s.rxIndex - 1 } true (some (s.rxBuffer.get (s.rxIndex.val - 1)))

/-- A refused word, 30_encoding.md R84: the word is taken, `refused` is set, nothing else is performed. -/
def State.refuseWord (s : State) : State :=
  State.returns { s.takeCommand with refused := true } false none

end Sys2Proof.Machine
end

