-- ==== Sys2Proof/Machine/Lifecycle.lean ====
section
/-! DEFINITION. INIT and DEINIT, 43_lifecycle.md. -/

namespace Sys2Proof.Machine

/-- The codec's registers at their reset values, R161; `fault` and `refused` are not among them. -/
def State.clearCodec (s : State) : State :=
  { s with activeType := none, txIndex := 0, txBuffer := ⟨0x00, 0x00, 0x00, 0x00⟩,
           rxBuffer := ⟨0x00, 0x00, 0x00⟩, rxIndex := 0 }

/-- `INIT`, R160. -/
def execInit (s : State) : Host.Outcome State Fault Refusal :=
  s.perform fun s => (if s.params.initClearsState then s.clearCodec else s).hwInit

/-- `DEINIT`, R163. -/
def execDeinit (s : State) : Host.Outcome State Fault Refusal :=
  s.perform fun s => s.hwDeInit

end Sys2Proof.Machine
end

