-- ==== Sys2Proof/Machine/Receive.lean ====
section
/-! DEFINITION. The receive path, 42_receive.md: READ, and the sixteen packets a READ is answered with.  A
packet's meaning is that of the READ whose `HwRead` the transport answers with it (log 9). -/

namespace Sys2Proof.Machine

/-- READ with an empty buffer, answered with a packet of class `c`: classified and its first byte delivered,
or dropped (R140, R143, R145). -/
def State.acceptPacket (c : RxClass) (p : Packet) (s : State) : State :=
  match (s.hwRead (some p)).classify c p with
  | some t => t.deliver
  | none => (s.hwRead (some p)).returns false none

/-- READ with an empty buffer and no packet available, R142. -/
def State.acceptNone (s : State) : State := (s.hwRead none).returns false none

/-- The effect of READ where the transport would answer with the packet `p` of class `c`: while bytes are
undelivered the transport is not asked (R140, R219). -/
def State.receivePacket (c : RxClass) (p : Packet) (s : State) : State :=
  if s.rxIndex = 0 then s.acceptPacket c p else s.deliver

/-- The effect of `READ`, R140. -/
def State.readByte (s : State) : State :=
  if s.rxIndex = 0 then
    match s.transport.readAnswer with
    | none => s.acceptNone
    | some p => s.acceptPacket (rxClass p.cin) p
  else s.deliver

/-- `READ`, R140. -/
def execRead (s : State) : Host.Outcome State Fault Refusal :=
  s.perform State.readByte

/-- A packet of CIN 0x0, class unrecognised (R76, R143). -/
def execCin0 (cn : Nibble) (d1 d2 d3 : Byte) (s : State) : Host.Outcome State Fault Refusal :=
  s.perform (State.receivePacket .unrecognised (mkPacket cn 0x0 d1 d2 d3))

/-- A packet of CIN 0x1, class unrecognised (R76, R143). -/
def execCin1 (cn : Nibble) (d1 d2 d3 : Byte) (s : State) : Host.Outcome State Fault Refusal :=
  s.perform (State.receivePacket .unrecognised (mkPacket cn 0x1 d1 d2 d3))

/-- A packet of CIN 0x2, class two (R76, R143). -/
def execCin2 (cn : Nibble) (d1 d2 d3 : Byte) (s : State) : Host.Outcome State Fault Refusal :=
  s.perform (State.receivePacket .two (mkPacket cn 0x2 d1 d2 d3))

/-- A packet of CIN 0x3, class three (R76, R143). -/
def execCin3 (cn : Nibble) (d1 d2 d3 : Byte) (s : State) : Host.Outcome State Fault Refusal :=
  s.perform (State.receivePacket .three (mkPacket cn 0x3 d1 d2 d3))

/-- A packet of CIN 0x4, class three (R76, R143). -/
def execCin4 (cn : Nibble) (d1 d2 d3 : Byte) (s : State) : Host.Outcome State Fault Refusal :=
  s.perform (State.receivePacket .three (mkPacket cn 0x4 d1 d2 d3))

/-- A packet of CIN 0x5, class one (R76, R143). -/
def execCin5 (cn : Nibble) (d1 d2 d3 : Byte) (s : State) : Host.Outcome State Fault Refusal :=
  s.perform (State.receivePacket .one (mkPacket cn 0x5 d1 d2 d3))

/-- A packet of CIN 0x6, class two (R76, R143). -/
def execCin6 (cn : Nibble) (d1 d2 d3 : Byte) (s : State) : Host.Outcome State Fault Refusal :=
  s.perform (State.receivePacket .two (mkPacket cn 0x6 d1 d2 d3))

/-- A packet of CIN 0x7, class three (R76, R143). -/
def execCin7 (cn : Nibble) (d1 d2 d3 : Byte) (s : State) : Host.Outcome State Fault Refusal :=
  s.perform (State.receivePacket .three (mkPacket cn 0x7 d1 d2 d3))

/-- A packet of CIN 0x8, class three (R76, R143). -/
def execCin8 (cn : Nibble) (d1 d2 d3 : Byte) (s : State) : Host.Outcome State Fault Refusal :=
  s.perform (State.receivePacket .three (mkPacket cn 0x8 d1 d2 d3))

/-- A packet of CIN 0x9, class three (R76, R143). -/
def execCin9 (cn : Nibble) (d1 d2 d3 : Byte) (s : State) : Host.Outcome State Fault Refusal :=
  s.perform (State.receivePacket .three (mkPacket cn 0x9 d1 d2 d3))

/-- A packet of CIN 0xA, class three (R76, R143). -/
def execCinA (cn : Nibble) (d1 d2 d3 : Byte) (s : State) : Host.Outcome State Fault Refusal :=
  s.perform (State.receivePacket .three (mkPacket cn 0xA d1 d2 d3))

/-- A packet of CIN 0xB, class three (R76, R143). -/
def execCinB (cn : Nibble) (d1 d2 d3 : Byte) (s : State) : Host.Outcome State Fault Refusal :=
  s.perform (State.receivePacket .three (mkPacket cn 0xB d1 d2 d3))

/-- A packet of CIN 0xC, class two (R76, R143). -/
def execCinC (cn : Nibble) (d1 d2 d3 : Byte) (s : State) : Host.Outcome State Fault Refusal :=
  s.perform (State.receivePacket .two (mkPacket cn 0xC d1 d2 d3))

/-- A packet of CIN 0xD, class two (R76, R143). -/
def execCinD (cn : Nibble) (d1 d2 d3 : Byte) (s : State) : Host.Outcome State Fault Refusal :=
  s.perform (State.receivePacket .two (mkPacket cn 0xD d1 d2 d3))

/-- A packet of CIN 0xE, class three (R76, R143). -/
def execCinE (cn : Nibble) (d1 d2 d3 : Byte) (s : State) : Host.Outcome State Fault Refusal :=
  s.perform (State.receivePacket .three (mkPacket cn 0xE d1 d2 d3))

/-- A packet of CIN 0xF, class one (R76, R143). -/
def execCinF (cn : Nibble) (d1 d2 d3 : Byte) (s : State) : Host.Outcome State Fault Refusal :=
  s.perform (State.receivePacket .one (mkPacket cn 0xF d1 d2 d3))

end Sys2Proof.Machine
end

