-- ==== Sys2Proof/Machine/Transmit.lean ====
section
/-! DEFINITION. The transmit path: BEGIN (one meaning per MessageType), WRITE with the sysex fragmentor, and
END; 40_transmit.md and 41_sysex.md. -/

namespace Sys2Proof.Machine

/-- The effect of `BEGIN type`, R100: "Always succeeds". -/
def State.beginMessage (t : MessageType) (s : State) : State :=
  State.returns
    { s with activeType := some t, txIndex := 0, txBuffer := beginPacket s.params t s.txBuffer } true none

/-- `NonSysexStore(b)`, R103: slot `txIndex`, no flush. -/
def State.nonSysexStore (b : Byte) (s : State) : State :=
  State.returns { s with txBuffer := s.txBuffer.setSlot s.txIndex b } true none

/-- `SysexStore(b)`, R120: header and zero fill, slot store, and the auto-flush of a full group (R126). -/
def State.sysexStore (b : Byte) (s : State) : State :=
  let t := { s with txBuffer := sysexPacket s.params (s.txIndex % 3) b s.txBuffer }
  if autoFlushes (s.txIndex % 3) b then t.hwWrite else t.returns true none

/-- The fault a WRITE raises, in the order of R102 and R178; none where it raises none. -/
def State.writeFault (s : State) : Option FaultCode :=
  match s.activeType with
  | none => some .noTransmission
  | some t =>
    if t ≠ .sysEx ∧ 3 ≤ s.txIndex then some .txOverrun
    else if s.txIndex = s.params.txIndexLimit then some .txIndexOverflow
    else none

/-- The effect of `WRITE b`, R102: `txIndex` counts the byte whatever an auto-flush answered. -/
def State.writeByte (b : Byte) (s : State) : State :=
  match s.writeFault with
  | some code => s.raiseFault code
  | none =>
    let t := if s.activeType = some .sysEx then s.sysexStore b else s.nonSysexStore b
    { t with txIndex := t.txIndex + 1 }

/-- The effect of `END`, R104: the packet is sent and stays in the buffer. -/
def State.flush (s : State) : State :=
  match s.activeType with
  | none => s.raiseFault .noTransmission
  | some _ => s.hwWrite

/-- `BEGIN NOTE_OFF`, R100. -/
def execBeginNoteOff (s : State) : Host.Outcome State Fault Refusal :=
  s.perform (State.beginMessage .noteOff)

/-- `BEGIN NOTE_ON`, R100. -/
def execBeginNoteOn (s : State) : Host.Outcome State Fault Refusal :=
  s.perform (State.beginMessage .noteOn)

/-- `BEGIN AFTER_TOUCH_POLY`, R100. -/
def execBeginAfterTouchPoly (s : State) : Host.Outcome State Fault Refusal :=
  s.perform (State.beginMessage .afterTouchPoly)

/-- `BEGIN CONTROL_CHANGE`, R100. -/
def execBeginControlChange (s : State) : Host.Outcome State Fault Refusal :=
  s.perform (State.beginMessage .controlChange)

/-- `BEGIN PROGRAM_CHANGE`, R100. -/
def execBeginProgramChange (s : State) : Host.Outcome State Fault Refusal :=
  s.perform (State.beginMessage .programChange)

/-- `BEGIN AFTER_TOUCH_CHANNEL`, R100. -/
def execBeginAfterTouchChannel (s : State) : Host.Outcome State Fault Refusal :=
  s.perform (State.beginMessage .afterTouchChannel)

/-- `BEGIN PITCH_BEND`, R100. -/
def execBeginPitchBend (s : State) : Host.Outcome State Fault Refusal :=
  s.perform (State.beginMessage .pitchBend)

/-- `BEGIN SYS_EX`, R100. -/
def execBeginSysEx (s : State) : Host.Outcome State Fault Refusal :=
  s.perform (State.beginMessage .sysEx)

/-- `BEGIN TIME_CODE_QUARTER_FRAME`, R100. -/
def execBeginTimeCodeQuarterFrame (s : State) : Host.Outcome State Fault Refusal :=
  s.perform (State.beginMessage .timeCodeQuarterFrame)

/-- `BEGIN SONG_POSITION`, R100. -/
def execBeginSongPosition (s : State) : Host.Outcome State Fault Refusal :=
  s.perform (State.beginMessage .songPosition)

/-- `BEGIN SONG_SELECT`, R100. -/
def execBeginSongSelect (s : State) : Host.Outcome State Fault Refusal :=
  s.perform (State.beginMessage .songSelect)

/-- `BEGIN TUNE_REQUEST`, R100. -/
def execBeginTuneRequest (s : State) : Host.Outcome State Fault Refusal :=
  s.perform (State.beginMessage .tuneRequest)

/-- `BEGIN CLOCK`, R100. -/
def execBeginClock (s : State) : Host.Outcome State Fault Refusal :=
  s.perform (State.beginMessage .clock)

/-- `BEGIN START`, R100. -/
def execBeginStart (s : State) : Host.Outcome State Fault Refusal :=
  s.perform (State.beginMessage .start)

/-- `BEGIN CONTINUE`, R100. -/
def execBeginContinue (s : State) : Host.Outcome State Fault Refusal :=
  s.perform (State.beginMessage .continue_)

/-- `BEGIN STOP`, R100. -/
def execBeginStop (s : State) : Host.Outcome State Fault Refusal :=
  s.perform (State.beginMessage .stop)

/-- `BEGIN ACTIVE_SENSING`, R100. -/
def execBeginActiveSensing (s : State) : Host.Outcome State Fault Refusal :=
  s.perform (State.beginMessage .activeSensing)

/-- `BEGIN SYSTEM_RESET`, R100. -/
def execBeginSystemReset (s : State) : Host.Outcome State Fault Refusal :=
  s.perform (State.beginMessage .systemReset)

/-- `WRITE b`, R102. -/
def execWrite (b : Byte) (s : State) : Host.Outcome State Fault Refusal :=
  s.perform (State.writeByte b)

/-- `END`, R104. -/
def execEndMessage (s : State) : Host.Outcome State Fault Refusal :=
  s.perform State.flush

end Sys2Proof.Machine
end

