-- ==== Sys2Proof/Machine/Dispatch.lean ====
section
/-! DEFINITION. One arm per instruction. -/

namespace Sys2Proof.Machine

def exec (i : Instr) (s : State) : Host.Outcome State Fault Refusal :=
  match i with
  | .init => Sys2Proof.Machine.execInit s
  | .deinit => Sys2Proof.Machine.execDeinit s
  | .beginNoteOff => Sys2Proof.Machine.execBeginNoteOff s
  | .beginNoteOn => Sys2Proof.Machine.execBeginNoteOn s
  | .beginAfterTouchPoly => Sys2Proof.Machine.execBeginAfterTouchPoly s
  | .beginControlChange => Sys2Proof.Machine.execBeginControlChange s
  | .beginProgramChange => Sys2Proof.Machine.execBeginProgramChange s
  | .beginAfterTouchChannel => Sys2Proof.Machine.execBeginAfterTouchChannel s
  | .beginPitchBend => Sys2Proof.Machine.execBeginPitchBend s
  | .beginSysEx => Sys2Proof.Machine.execBeginSysEx s
  | .beginTimeCodeQuarterFrame => Sys2Proof.Machine.execBeginTimeCodeQuarterFrame s
  | .beginSongPosition => Sys2Proof.Machine.execBeginSongPosition s
  | .beginSongSelect => Sys2Proof.Machine.execBeginSongSelect s
  | .beginTuneRequest => Sys2Proof.Machine.execBeginTuneRequest s
  | .beginClock => Sys2Proof.Machine.execBeginClock s
  | .beginStart => Sys2Proof.Machine.execBeginStart s
  | .beginContinue => Sys2Proof.Machine.execBeginContinue s
  | .beginStop => Sys2Proof.Machine.execBeginStop s
  | .beginActiveSensing => Sys2Proof.Machine.execBeginActiveSensing s
  | .beginSystemReset => Sys2Proof.Machine.execBeginSystemReset s
  | .write b => Sys2Proof.Machine.execWrite b s
  | .endMessage => Sys2Proof.Machine.execEndMessage s
  | .read => Sys2Proof.Machine.execRead s
  | .cin0 cn d1 d2 d3 => Sys2Proof.Machine.execCin0 cn d1 d2 d3 s
  | .cin1 cn d1 d2 d3 => Sys2Proof.Machine.execCin1 cn d1 d2 d3 s
  | .cin2 cn d1 d2 d3 => Sys2Proof.Machine.execCin2 cn d1 d2 d3 s
  | .cin3 cn d1 d2 d3 => Sys2Proof.Machine.execCin3 cn d1 d2 d3 s
  | .cin4 cn d1 d2 d3 => Sys2Proof.Machine.execCin4 cn d1 d2 d3 s
  | .cin5 cn d1 d2 d3 => Sys2Proof.Machine.execCin5 cn d1 d2 d3 s
  | .cin6 cn d1 d2 d3 => Sys2Proof.Machine.execCin6 cn d1 d2 d3 s
  | .cin7 cn d1 d2 d3 => Sys2Proof.Machine.execCin7 cn d1 d2 d3 s
  | .cin8 cn d1 d2 d3 => Sys2Proof.Machine.execCin8 cn d1 d2 d3 s
  | .cin9 cn d1 d2 d3 => Sys2Proof.Machine.execCin9 cn d1 d2 d3 s
  | .cinA cn d1 d2 d3 => Sys2Proof.Machine.execCinA cn d1 d2 d3 s
  | .cinB cn d1 d2 d3 => Sys2Proof.Machine.execCinB cn d1 d2 d3 s
  | .cinC cn d1 d2 d3 => Sys2Proof.Machine.execCinC cn d1 d2 d3 s
  | .cinD cn d1 d2 d3 => Sys2Proof.Machine.execCinD cn d1 d2 d3 s
  | .cinE cn d1 d2 d3 => Sys2Proof.Machine.execCinE cn d1 d2 d3 s
  | .cinF cn d1 d2 d3 => Sys2Proof.Machine.execCinF cn d1 d2 d3 s

end Sys2Proof.Machine
end

