-- ==== Sys2Proof/Machine/Fetch.lean ====
section
/-! DEFINITION. How a command comes to the codec: it fetches nothing from a memory (10_state.md R21); it takes
the next word the caller has issued and decodes it (30_encoding.md R83, R84).  Also how a caller and a
transport are set up so that a given instruction is the next one (log 10). -/

namespace Sys2Proof.Machine

/-- What stands at the codec's command port. -/
inductive Fetched where
  /-- No command: the codec waits. -/
  | idle
  /-- A word the decoder gives no meaning. -/
  | illegal (e : DecodeError)
  /-- A command. -/
  | instr (i : Instr)
  deriving DecidableEq, Repr

/-- The next command of the caller. -/
def State.fetch (s : State) : Fetched :=
  match s.commands with
  | [] => .idle
  | w :: _ =>
    match decodeCmd w with
    | .ok i => .instr i
    | .error e => .illegal e

/-- One step, over the meaning `ex` of an instruction.  A faulted codec has no further step (R173); with no
command the codec waits and nothing changes (R59; log 1); a word without meaning is refused (R84). -/
def State.stepWith (ex : Instr → State → Host.Outcome State Fault Refusal) (s : State) :
    Host.Outcome State Fault Refusal :=
  if s.fault = .none then
    match s.fetch with
    | .idle => .next s
    | .illegal _ => .next s.refuseWord
    | .instr i => ex i s
  else .fault (.quiescent s.fault)

/-- The caller issues the word `w` next. -/
def State.issue (s : State) (w : CmdWord) : State := { s with commands := w :: s.commands }

/-- The transport answers the next `HwRead` with the packet `p`, and the caller issues a READ that asks it:
nothing is left to deliver. -/
def State.offerPacket (s : State) (p : Packet) : State :=
  { s.issue (mkCmd 0x6 0x00) with
    rxIndex := 0
    transport := { s.transport with readAnswers := some p :: s.transport.readAnswers } }

/-- The instruction of an opcode-table row stands where the next step takes it (log 10). -/
def State.placeTableWord (s : State) (nbits w : Nat) : State :=
  if nbits = 32 then s.offerPacket (Packet.ofWord (BitVec.ofNat 32 w)) else s.issue (BitVec.ofNat 16 w)

end Sys2Proof.Machine
end

