-- ==== Sys2Proof/Machine/Step.lean ====
section
/-! DEFINITION. One step of the machine: one command of the caller. -/

namespace Sys2Proof.Machine

/-- One atomic step, R11. -/
def step (s : State) : Host.Outcome State Fault Refusal := s.stepWith exec

/-- `s` with the instruction of a table row standing where `step` takes its next instruction. -/
def State.withFetchWord (s : State) (nbits w : Nat) : State := s.placeTableWord nbits w

end Sys2Proof.Machine
end

