-- ==== Sys2Proof/Machine/Assembly.lean ====
section
/-! DEFINITION. The assembler syntax of 30_encoding.md R86: the line of a command, and the expansions of the
pseudo-instructions.  Notation only (D20): no command reads it. -/

namespace Sys2Proof

/-- The name of a MessageType, R75. -/
def MessageType.name : MessageType → String
  | .noteOff => "NOTE_OFF"
  | .noteOn => "NOTE_ON"
  | .afterTouchPoly => "AFTER_TOUCH_POLY"
  | .controlChange => "CONTROL_CHANGE"
  | .programChange => "PROGRAM_CHANGE"
  | .afterTouchChannel => "AFTER_TOUCH_CHANNEL"
  | .pitchBend => "PITCH_BEND"
  | .sysEx => "SYS_EX"
  | .timeCodeQuarterFrame => "TIME_CODE_QUARTER_FRAME"
  | .songPosition => "SONG_POSITION"
  | .songSelect => "SONG_SELECT"
  | .tuneRequest => "TUNE_REQUEST"
  | .clock => "CLOCK"
  | .start => "START"
  | .continue_ => "CONTINUE"
  | .stop => "STOP"
  | .activeSensing => "ACTIVE_SENSING"
  | .systemReset => "SYSTEM_RESET"

/-- A hexadecimal digit. -/
def hexDigit (n : Nibble) : Char :=
  if n.toNat < 10 then Char.ofNat (48 + n.toNat) else Char.ofNat (55 + n.toNat)

/-- A byte as the syntax writes it, `0xHH`. -/
def hexByte (b : Byte) : String :=
  "0x" ++ String.ofList [hexDigit (b.extractLsb' 4 4), hexDigit (b.extractLsb' 0 4)]

/-- The line of a command; none for a packet, which the syntax does not write. -/
def Instr.line (i : Instr) : Option String :=
  match i.beginType with
  | some t => some ("BEGIN " ++ t.name)
  | none =>
    match i with
    | .init => some "INIT"
    | .deinit => some "DEINIT"
    | .write b => some ("WRITE " ++ hexByte b)
    | .endMessage => some "END"
    | .read => some "READ"
    | _ => none

/-- The bytes of a sysex message with the given body: start marker, body, stop marker. -/
def sysexStream (body : List Byte) : List Byte := sysexStartByte :: body ++ [sysexStopByte]

/-- The expansion of a pseudo-instruction, R86. -/
def Pseudo.expand : Pseudo → List Instr
  | .send t bytes => t.beginInstr :: bytes.map Instr.write ++ [.endMessage]
  | .sysex body => .beginSysEx :: (sysexStream body).map Instr.write ++ [.endMessage]
  | .recv n => List.replicate n .read

end Sys2Proof
end

