-- ==== Sys2Proof/WellFormed.lean ====
section
/-! DEFINITION. What is well formed: an instruction (every term is: the operand types carry every bound),
an instance's parameters (R7), a pseudo-instruction (R86) and a caller's command stream (R212). -/

namespace Sys2Proof

/-- Every term of `Instr` is well formed: a MessageType is a constructor, a byte and a nibble are bit
vectors of their width (R81: WRITE takes any byte). -/
def Instr.wf (_ : Instr) : Bool := true

/-- `P_TXINDEX_LIMIT` is "natural, at least 3", R7. -/
def Params.wf (c : Params) : Bool := decide (3 ≤ c.txIndexLimit)

/-- A pseudo-instruction is well formed: SEND has the bytes its type expects (R86), the body of SYSEX holds
no stop marker (R212); RECV always. -/
def Pseudo.wf : Pseudo → Bool
  | .send t bytes => t.lenOf == some bytes.length
  | .sysex body => body.all (fun b => b != sysexStopByte)
  | .recv _ => true

/-- Where a caller's stream stands in the grammar of R212. -/
inductive StreamPhase where
  /-- Between messages. -/
  | between
  /-- In a message of a fixed length, with so many WRITEs to come before END. -/
  | fixed (left : Nat)
  /-- After BEGIN SYS_EX: 0xF0 comes next. -/
  | sysexStart
  /-- In a sysex message of which so many bytes have been written. -/
  | sysexBody (written : Nat)
  /-- After the terminator: END comes next. -/
  | sysexEnd
  deriving DecidableEq, Repr

/-- One transmit command of a stream, R212; none where the grammar has no such command there. -/
def StreamPhase.transmit (limit : Nat) (p : StreamPhase) (i : Instr) : Option StreamPhase :=
  match p, i with
  | .between, i =>
    match i.beginType with
    | some t =>
      match t.lenOf with
      | some n => some (.fixed n)
      | none => some .sysexStart
    | none => none
  | .fixed (n + 1), .write _ => some (.fixed n)
  | .fixed 0, .endMessage => some .between
  | .sysexStart, .write b => if b = sysexStartByte then some (.sysexBody 1) else none
  | .sysexBody n, .write b =>
    if b = sysexStopByte then (if n + 1 ≤ limit then some .sysexEnd else none)
    else some (.sysexBody (n + 1))
  | .sysexEnd, .endMessage => some .between
  | _, _ => none

/-- One command of a stream, R212, for an instance with the parameters `c`.  READ and DEINIT stand anywhere
between the transmit commands; INIT too, but only between whole messages where it clears the codec's state
(`P_INIT_CLEARS_STATE`), since there it would abandon the message (log 15). -/
def StreamPhase.next (c : Params) (p : StreamPhase) (i : Instr) : Option StreamPhase :=
  match i with
  | .read => some p
  | .deinit => some p
  | .init => if c.initClearsState && p != .between then none else some p
  | i => p.transmit c.txIndexLimit i

/-- The phase after a stream of commands; none where it leaves the grammar. -/
def StreamPhase.run (c : Params) : StreamPhase → List Instr → Option StreamPhase
  | p, [] => some p
  | p, i :: is =>
    match p.next c i with
    | some q => StreamPhase.run c q is
    | none => none

/-- A well-formed command stream, R212: a sequence of whole messages. -/
def wellFormedStream (c : Params) (is : List Instr) : Bool :=
  StreamPhase.run c .between is == some .between

end Sys2Proof
end

