-- ==== Sys2Proof/Safety.lean ====
section
/-! DEFINITION. The terms claims are stated in: which states are legal (10_state.md R34), what may be on the
wire (30_encoding.md R79), runs of commands, and what a run sends and delivers. -/

namespace Sys2Proof.Machine

/-- A safe state: no fault raised and no word refused (R30, R31). -/
def State.safe (s : State) : Bool := s.fault == .none && !s.refused

/-- The register invariants of R34; `rxIndex` is in 0 .. 3 by its type. -/
structure State.RegistersLegal (s : State) : Prop where
  /-- `P_TXINDEX_LIMIT` is at least 3, R7. -/
  limit : s.params.wf = true
  /-- `txIndex` is at most `P_TXINDEX_LIMIT`. -/
  counter : s.txIndex ≤ s.params.txIndexLimit
  /-- In a non-sysex message `txIndex` is at most 3. -/
  fixedLength : ∀ t, s.activeType = some t → t ≠ .sysEx → s.txIndex ≤ 3
  /-- While a message is in progress the header holds the instance's cable number. -/
  cable : s.activeType ≠ none → s.txBuffer.cable = s.params.cable

/-- A packet this instance may send: its own cable number, and a CIN the receive classification accepts, R79. -/
def Sendable (c : Params) (p : Packet) : Prop := p.cable = c.cable ∧ rxClass p.cin ≠ .unrecognised

/-- The wire invariant, R79: the packet being assembled is sendable, and so is every packet ever handed to the
transport. -/
structure State.WireLegal (s : State) : Prop where
  /-- The packet of the message in progress. -/
  buffer : s.activeType ≠ none → Sendable s.params s.txBuffer
  /-- The packets sent. -/
  sent : ∀ p ok, Event.wr p ok ∈ s.trace → Sendable s.params p

/-- Perform one command that returns a result: the state after it and its outputs; none where it faults. -/
def performOne (i : Instr) (s : State) : Option (State × Output) :=
  match exec i s with
  | .next t => t.out.map (fun o => (t, o))
  | .fault _ => none
  | .refused _ => none

/-- Perform commands in order: the state after them and their outputs; none where one of them faults. -/
def performAll : List Instr → State → Option (State × List Output)
  | [], s => some (s, [])
  | i :: is, s =>
    match performOne i s with
    | some (t, o) => (performAll is t).map (fun r => (r.1, o :: r.2))
    | none => none

/-- `k` steps of the machine; the first stop ends the run. -/
def runSteps : Nat → State → Host.Outcome State Fault Refusal
  | 0, s => .next s
  | k + 1, s =>
    match step s with
    | .next t => runSteps k t
    | .fault r => .fault r
    | .refused r => .refused r

/-- The packets handed to the transport by some events, whatever it answered, in order. -/
def packetsSent (es : List Event) : List Packet :=
  es.filterMap fun
    | .wr p _ => some p
    | .rd _ => none
    | .init _ => none
    | .deInit _ => none

/-- The outputs of READs that deliver the given bytes. -/
def deliveries (bytes : List Byte) : List Output := bytes.map (fun b => ⟨true, some b⟩)

/-- The packets of a sysex byte stream, R132: groups of three under CIN 0x4, and the rest, terminator last,
under the stop CIN that counts it.  `d2` and `d3` are what the buffer's last two slots held before, seen only
in a stop-1 packet of an instance without `P_STOP_GROUP_ZERO_FILL` (R124). -/
def sysexPackets (c : Params) (d2 d3 : Byte) : List Byte → List Packet
  | [] => []
  | [a] =>
    if c.stopGroupZeroFill then [mkPacket c.cable 0x5 a 0x00 0x00] else [mkPacket c.cable 0x5 a d2 d3]
  | [a, b] => [mkPacket c.cable 0x6 a b 0x00]
  | [a, b, d] => [mkPacket c.cable 0x7 a b d]
  | a :: b :: d :: rest => mkPacket c.cable 0x4 a b d :: sysexPackets c b d rest

end Sys2Proof.Machine
end

