-- ==== Sys2Proof/Certificates/Slice0/Obligations.lean ====
section
/-! DEFINITION. The statements for the provers.  Each is a rule of spec/, or follows from the rules its
docstring names; none is about a program. -/

namespace Sys2Proof.Statements

/-- The BEGIN rows written out from 30_encoding.md R75 and R80: instruction, MessageType, command word, transmit CIN. -/
def beginRows : List (Instr × MessageType × CmdWord × Nibble) :=
  [(.beginNoteOff, .noteOff, 0x0380, 0x8),
   (.beginNoteOn, .noteOn, 0x0390, 0x9),
   (.beginAfterTouchPoly, .afterTouchPoly, 0x03A0, 0xA),
   (.beginControlChange, .controlChange, 0x03B0, 0xB),
   (.beginProgramChange, .programChange, 0x03C0, 0xC),
   (.beginAfterTouchChannel, .afterTouchChannel, 0x03D0, 0xD),
   (.beginPitchBend, .pitchBend, 0x03E0, 0xE),
   (.beginSysEx, .sysEx, 0x03F0, 0x4),
   (.beginTimeCodeQuarterFrame, .timeCodeQuarterFrame, 0x03F1, 0x2),
   (.beginSongPosition, .songPosition, 0x03F2, 0x3),
   (.beginSongSelect, .songSelect, 0x03F3, 0x2),
   (.beginTuneRequest, .tuneRequest, 0x03F6, 0x5),
   (.beginClock, .clock, 0x03F8, 0xF),
   (.beginStart, .start, 0x03FA, 0xF),
   (.beginContinue, .continue_, 0x03FB, 0xF),
   (.beginStop, .stop, 0x03FC, 0xF),
   (.beginActiveSensing, .activeSensing, 0x03FE, 0xF),
   (.beginSystemReset, .systemReset, 0x03FF, 0xF)]

/-- The codes of R75 as numbers, and the BEGIN instruction of each. -/
def beginCodes : List (Nat × Instr) :=
  [(0x80, .beginNoteOff),
   (0x90, .beginNoteOn),
   (0xA0, .beginAfterTouchPoly),
   (0xB0, .beginControlChange),
   (0xC0, .beginProgramChange),
   (0xD0, .beginAfterTouchChannel),
   (0xE0, .beginPitchBend),
   (0xF0, .beginSysEx),
   (0xF1, .beginTimeCodeQuarterFrame),
   (0xF2, .beginSongPosition),
   (0xF3, .beginSongSelect),
   (0xF6, .beginTuneRequest),
   (0xF8, .beginClock),
   (0xFA, .beginStart),
   (0xFB, .beginContinue),
   (0xFC, .beginStop),
   (0xFE, .beginActiveSensing),
   (0xFF, .beginSystemReset)]

/-- The sixteen packets of R76 with one cable number and data: their CIN and row. -/
def packetRows (cn : Nibble) (d1 d2 d3 : Byte) : List (Nibble × Instr) :=
  [(0x0, .cin0 cn d1 d2 d3), (0x1, .cin1 cn d1 d2 d3), (0x2, .cin2 cn d1 d2 d3), (0x3, .cin3 cn d1 d2 d3),
   (0x4, .cin4 cn d1 d2 d3), (0x5, .cin5 cn d1 d2 d3), (0x6, .cin6 cn d1 d2 d3), (0x7, .cin7 cn d1 d2 d3),
   (0x8, .cin8 cn d1 d2 d3), (0x9, .cin9 cn d1 d2 d3), (0xA, .cinA cn d1 d2 d3), (0xB, .cinB cn d1 d2 d3),
   (0xC, .cinC cn d1 d2 d3), (0xD, .cinD cn d1 d2 d3), (0xE, .cinE cn d1 d2 d3), (0xF, .cinF cn d1 d2 d3)]

/-- The transmit commands of 10_state.md R35: BEGIN of any type, WRITE and END. -/
def isTransmit (i : Instr) : Prop :=
  (∃ t, i = MessageType.beginInstr t) ∨ (∃ b, i = .write b) ∨ i = .endMessage

/-- The receive command of R35, READ, as the command itself or as the packet it is answered with. -/
def isReceive (i : Instr) : Prop := i = .read ∨ ∃ p, i = decodePacket p

end Sys2Proof.Statements

open Sys2Proof Sys2Proof.Machine Sys2Proof.Statements

/-! ### Reset -/

/-- R36: the value of every state field after reset, whatever the instance's parameters. -/
def Obligations.ResetValuesOfEveryField : Prop :=
  ∀ c : Params, ∃ s, s = State.resetWith c ∧
    s.activeType = none ∧ s.activeTypeCode = 0x00 ∧ s.txIndex = 0 ∧
    s.txBuffer = ⟨0x00, 0x00, 0x00, 0x00⟩ ∧ s.rxBuffer = ⟨0x00, 0x00, 0x00⟩ ∧ s.rxIndex = 0 ∧
    s.fault = .none ∧ s.refused = false ∧ s.trace = [] ∧ s.params.cable = c.cable

/-- The invariants of R34 and R79 hold after reset, for any legal parameters and for `State.reset`. -/
def Obligations.ResetIsLegal : Prop :=
  (∀ c : Params, 3 ≤ c.txIndexLimit → (State.resetWith c).RegistersLegal ∧ (State.resetWith c).WireLegal) ∧
    State.reset.RegistersLegal ∧ State.reset.WireLegal

/-- R201: after reset a WRITE or END faults, and the first READ calls `HwRead` once. -/
def Obligations.FirstCommandsAfterReset : Prop :=
  ∀ c : Params,
    (∀ b, exec (.write b) (State.resetWith c) = .next { State.resetWith c with fault := .noTransmission }) ∧
    exec .endMessage (State.resetWith c) = .next { State.resetWith c with fault := .noTransmission } ∧
    ∃ t, exec .read (State.resetWith c) = .next t ∧
      t.trace = [.rd (State.resetWith c).transport.readAnswer] ∧
      t.transport.calls = (State.resetWith c).transport.calls + 1

/-! ### Encodings -/

/-- Words of R71, R75 and R80 decode to what they stand for (a sanity statement). -/
def Obligations.SpecWordsDecode : Prop :=
  decodeTableWord 16 0x0100 = some .init ∧ decodeTableWord 16 0x0200 = some .deinit ∧
  decodeTableWord 16 0x0390 = some .beginNoteOn ∧ decodeTableWord 16 0x03F0 = some .beginSysEx ∧
  decodeTableWord 16 0x04F7 = some (.write 0xF7) ∧ decodeTableWord 16 0x0500 = some .endMessage ∧
  decodeTableWord 16 0x0600 = some .read ∧
  decodeTableWord 32 0x59903C7F = some (.cin9 0x5 0x90 0x3C 0x7F) ∧
  decodeTableWord 32 0x0633F700 = some (.cin6 0x0 0x33 0xF7 0x00)

/-- Decoding the encoding of any instruction, of either format and with any operands, gives it back. -/
def Obligations.DecodeOfEncodeIsTheInstruction : Prop :=
  ∀ i : Instr, i.wf = true → decode (encode i) = .ok i

/-- Each word has one meaning: what a word of either format decodes to encodes to that word. -/
def Obligations.EncodeOfDecodeIsTheWord : Prop :=
  ∀ (e : Encoded) (i : Instr), decode e = .ok i → encode i = e

/-- R81 and R83: the decoder of command words on every word, with the four tests in their order; `rsv`, `op` and
`arg` are bits [15:12], [11:8] and [7:0]. -/
def Obligations.CommandWordsDecodeOrAreRefused : Prop :=
  ∀ (w : CmdWord) (rsv op arg : Nat),
    rsv = w.toNat / 4096 → op = w.toNat / 256 % 16 → arg = w.toNat % 256 →
    decodeCmd w =
      if rsv ≠ 0 then .error .reservedBits
      else if op = 0 ∨ 7 ≤ op then .error .undefinedOp
      else if op = 4 then .ok (.write (BitVec.ofNat 8 arg))
      else if op = 3 then
        match beginCodes.lookup arg with
        | some i => .ok i
        | none => .error .unknownMessageType
      else if arg ≠ 0 then .error .nonzeroArg
      else if op = 1 then .ok .init
      else if op = 2 then .ok .deinit
      else if op = 5 then .ok .endMessage
      else .ok .read

/-- R77 and R79: the CIN each BEGIN writes is that of R75's row and is received at the type's expected length (for
SYS_EX, a group of three), and each stop CIN at the bytes it declares. -/
def Obligations.TransmitCinsAreReceivedAtTheirLength : Prop :=
  (∀ r ∈ beginRows, r.2.1.cinOf = r.2.2.2 ∧ (rxClass r.2.2.2).length = some (r.2.1.lenOf.getD 3)) ∧
  ∀ p ∈ [0, 1, 2], (rxClass (stopCin p)).length = some (p + 1)

/-! ### Steps -/

/-- R11: with a command at the port, a step is the meaning of the decoded command, and it takes that word. -/
def Obligations.StepRunsTheDecodedCommand : Prop :=
  ∀ (s : State) (w : CmdWord) (rest : List CmdWord) (i : Instr),
    s.fault = .none → s.commands = w :: rest → decodeCmd w = .ok i →
    ∃ t, step s = .next t ∧ exec i s = .next t ∧ t.commands = rest

/-- A READ at the port whose `HwRead` a packet answers runs that packet's row (the model's choice, log 9). -/
def Obligations.StepRunsTheRowOfTheFetchedPacket : Prop :=
  ∀ (s : State) (rest : List CmdWord) (p : Packet) (more : List (Option Packet)),
    s.fault = .none → s.rxIndex = 0 → s.commands = 0x0600 :: rest → s.transport.readAnswers = some p :: more →
    ∃ t, step s = .next t ∧ exec (decodePacket p) s = .next t ∧ t.commands = rest ∧
      t.transport.readAnswers = more

/-- An instruction placed by `withFetchWord` is the one the next step runs (the model's own placing, log 10). -/
def Obligations.PlacedTableWordIsRunNext : Prop :=
  ∀ (s : State) (nbits w : Nat) (i : Instr),
    s.fault = .none → decodeTableWord nbits w = some i →
    ∃ t, step (s.withFetchWord nbits w) = .next t ∧ exec i (s.withFetchWord nbits w) = .next t ∧
      t.commands = s.commands

/-- With no command the codec waits: a step changes nothing (the model's choice, log 1). -/
def Obligations.StepWithoutCommandWaits : Prop :=
  ∀ s : State, s.fault = .none → s.commands = [] → step s = .next s

/-- R84: a refused word sets `refused` and changes nothing else; `refused` stays set, and later words are performed
as usual. -/
def Obligations.RefusedWordOnlySetsRefused : Prop :=
  (∀ (s : State) (w : CmdWord) (rest : List CmdWord) (e : DecodeError),
    s.fault = .none → s.commands = w :: rest → decodeCmd w = .error e →
    step s = .next { s with refused := true, out := some ⟨false, none⟩, commands := rest }) ∧
  (∀ s t : State, step s = .next t → s.refused = true → t.refused = true) ∧
  (∀ s t : State, step s = .next t → step { s with refused := true } = .next { t with refused := true })

/-- R173: a faulted codec performs no command and has no further step. -/
def Obligations.FaultedCodecIsQuiescent : Prop :=
  ∀ s : State, s.fault ≠ .none →
    step s = .fault (.quiescent s.fault) ∧ ∀ i, exec i s = .fault (.quiescent s.fault)

/-- A step of an unfaulted codec always has a next state (R185, R224). -/
def Obligations.UnfaultedCodecAlwaysSteps : Prop :=
  ∀ s : State, s.fault = .none → (∃ t, step s = .next t) ∧ ∀ i, ∃ t, exec i s = .next t

/-! ### Faults -/

/-- R172: a command that raises a fault is a WRITE or END, sets `fault`, changes nothing else, calls no transport
primitive and returns no result; the codec then has no step. -/
def Obligations.RaisingAFaultChangesNothingElse : Prop :=
  ∀ (i : Instr) (s t : State), exec i s = .next t → t.fault ≠ .none →
    ((∃ b, i = .write b) ∨ i = .endMessage) ∧
    t = { s with fault := t.fault, out := none, commands := s.commands.tail } ∧
    step t = .fault (.quiescent t.fault)

/-- R174, R175, R177: which fault a WRITE or END raises, with the codes of R176 and the priority of R178. -/
def Obligations.ProtocolViolationsRaiseTheirFault : Prop :=
  (∀ s : State, s.fault = .none → s.activeType = none →
    (∀ b, exec (.write b) s =
      .next { s with fault := .noTransmission, out := none, commands := s.commands.tail }) ∧
    exec .endMessage s =
      .next { s with fault := .noTransmission, out := none, commands := s.commands.tail }) ∧
  (∀ (s : State) (b : Byte) (t : MessageType), s.fault = .none → s.activeType = some t → t ≠ .sysEx →
    3 ≤ s.txIndex →
    exec (.write b) s = .next { s with fault := .txOverrun, out := none, commands := s.commands.tail }) ∧
  (∀ (s : State) (b : Byte) (t : MessageType), s.fault = .none → s.activeType = some t →
    (t = .sysEx ∨ s.txIndex < 3) → s.txIndex = s.params.txIndexLimit →
    exec (.write b) s = .next { s with fault := .txIndexOverflow, out := none, commands := s.commands.tail }) ∧
  FaultCode.code .none = 0 ∧ FaultCode.code .noTransmission = 1 ∧ FaultCode.code .txOverrun = 2 ∧
  FaultCode.code .txIndexOverflow = 3

/-! ### Transmit path -/

/-- R100: BEGIN of each of the eighteen types. -/
def Obligations.BeginStartsAMessage : Prop :=
  ∀ (i : Instr) (ty : MessageType) (w : CmdWord) (cin : Nibble), (i, ty, w, cin) ∈ beginRows →
    decodeCmd w = .ok i ∧
    ∀ s : State, s.fault = .none →
      exec i s = .next
        { s with
          activeType := some ty
          txIndex := 0
          txBuffer :=
            { event := s.params.cable ++ cin
              data1 := if s.params.beginClearsData then 0x00 else s.txBuffer.data1
              data2 := if s.params.beginClearsData then 0x00 else s.txBuffer.data2
              data3 := if s.params.beginClearsData then 0x00 else s.txBuffer.data3 }
          out := some ⟨true, none⟩
          commands := s.commands.tail }

/-- R103: a non-sysex byte goes to slot `txIndex`, and nothing is flushed. -/
def Obligations.WriteStoresANonSysexByte : Prop :=
  ∀ (s : State) (b : Byte) (t : MessageType), s.fault = .none → s.activeType = some t → t ≠ .sysEx →
    s.txIndex < 3 → s.txIndex ≠ s.params.txIndexLimit →
    exec (.write b) s = .next
      { s with
        txBuffer :=
          if s.txIndex = 0 then { s.txBuffer with data1 := b }
          else if s.txIndex = 1 then { s.txBuffer with data2 := b }
          else { s.txBuffer with data3 := b }
        txIndex := s.txIndex + 1
        out := some ⟨true, none⟩
        commands := s.commands.tail }

/-- The rows of R131: a sysex byte at each group position (R121 to R126).  That every byte at p = 0 but 0xF7 sets CIN
0x4, not the first of the message only, is R121's own reading (D5; log 17). -/
def Obligations.WriteFragmentsSysex : Prop :=
  ∀ (s : State) (b : Byte) (p : Nat), s.fault = .none → s.activeType = some .sysEx →
    s.txIndex ≠ s.params.txIndexLimit → p = s.txIndex % 3 →
    ∀ (buf : Packet),
      buf =
        (if p = 0 ∧ b = 0xF7 then
          { event := s.params.cable ++ 0x5#4
            data1 := 0xF7
            data2 := if s.params.stopGroupZeroFill then 0x00 else s.txBuffer.data2
            data3 := if s.params.stopGroupZeroFill then 0x00 else s.txBuffer.data3 }
        else if p = 0 then { event := s.params.cable ++ 0x4#4, data1 := b, data2 := 0x00, data3 := 0x00 }
        else if p = 1 ∧ b = 0xF7 then { s.txBuffer with event := s.params.cable ++ 0x6#4, data2 := 0xF7 }
        else if p = 1 then { s.txBuffer with data2 := b }
        else if b = 0xF7 then { s.txBuffer with event := s.params.cable ++ 0x7#4, data3 := 0xF7 }
        else { s.txBuffer with data3 := b }) →
      exec (.write b) s = .next
        (if p = 2 ∧ b ≠ 0xF7 then
          { s with
            txBuffer := buf
            txIndex := s.txIndex + 1
            trace := s.trace ++ [.wr buf s.transport.writeAnswer]
            transport := s.transport.afterWrite
            out := some ⟨s.transport.writeAnswer, none⟩
            commands := s.commands.tail }
        else
          { s with
            txBuffer := buf
            txIndex := s.txIndex + 1
            out := some ⟨true, none⟩
            commands := s.commands.tail })

/-- R127: after a failed auto-flush `txIndex` has counted the byte, the next WRITE starts a new group over the
failed one, with no transport call, and an END before it resends the failed group.  The new group's CIN 0x4 is R121's
reading (D5; log 17), its zero slots are R123's. -/
def Obligations.FailedAutoFlushIsNotRetried : Prop :=
  ∀ (s : State) (b c : Byte), s.fault = .none → s.activeType = some .sysEx → s.txIndex % 3 = 2 →
    s.txIndex + 1 < s.params.txIndexLimit → b ≠ 0xF7 → s.transport.writeAnswer = false →
    ∃ t, exec (.write b) s = .next t ∧ t.out = some ⟨false, none⟩ ∧ t.txIndex = s.txIndex + 1 ∧
      t.trace = s.trace ++ [.wr t.txBuffer false] ∧
      (∃ u, exec (.write c) t = .next u ∧ u.trace = t.trace ∧ u.fault = .none ∧ u.txBuffer.data1 = c ∧
        (c ≠ 0xF7 →
          u.txBuffer = { event := s.params.cable ++ 0x4#4, data1 := c, data2 := 0x00, data3 := 0x00 })) ∧
      (∃ u ok, exec .endMessage t = .next u ∧ u.trace = t.trace ++ [.wr t.txBuffer ok])

/-- R104: END hands a copy of the buffer to the transport and changes nothing else; with no message in progress it
faults. -/
def Obligations.EndSendsTheBuffer : Prop :=
  decodeCmd 0x0500 = .ok .endMessage ∧
  ∀ s : State, s.fault = .none →
    (s.activeType ≠ none →
      exec .endMessage s = .next
        { s with
          trace := s.trace ++ [.wr s.txBuffer s.transport.writeAnswer]
          transport := s.transport.afterWrite
          out := some ⟨s.transport.writeAnswer, none⟩
          commands := s.commands.tail }) ∧
    (s.activeType = none →
      exec .endMessage s = .next { s with fault := .noTransmission, out := none, commands := s.commands.tail })

/-- R217: an END after an END, or after a WRITE that auto-flushed, sends the same packet again and changes nothing. -/
def Obligations.EndSendsTheSamePacketAgain : Prop :=
  ∀ (i : Instr) (s t : State) (p : Packet) (ok : Bool), s.fault = .none → exec i s = .next t →
    (i = .endMessage ∨ ∃ b, i = .write b) → t.trace = s.trace ++ [.wr p ok] →
    exec .endMessage t = .next
      { t with
        trace := s.trace ++ [.wr p ok, .wr p t.transport.writeAnswer]
        transport := t.transport.afterWrite
        out := some ⟨t.transport.writeAnswer, none⟩
        commands := t.commands.tail }

/-! ### Receive path -/

/-- R144: while bytes are undelivered READ delivers `rxBuffer[rxIndex - 1]` and calls no transport primitive. -/
def Obligations.ReadDeliversABufferedByte : Prop :=
  ∀ s : State, s.fault = .none →
    (s.rxIndex = 1 → exec .read s = .next
      { s with rxIndex := 0, out := some ⟨true, some s.rxBuffer.b0⟩, commands := s.commands.tail }) ∧
    (s.rxIndex = 2 → exec .read s = .next
      { s with rxIndex := 1, out := some ⟨true, some s.rxBuffer.b1⟩, commands := s.commands.tail }) ∧
    (s.rxIndex = 3 → exec .read s = .next
      { s with rxIndex := 2, out := some ⟨true, some s.rxBuffer.b2⟩, commands := s.commands.tail })

/-- R142: READ with no packet available returns false and changes no field but `trace`. -/
def Obligations.ReadWithNoPacketReturnsFalse : Prop :=
  ∀ s : State, s.fault = .none → s.rxIndex = 0 → s.transport.readAnswer = none →
    exec .read s = .next
      { s with
        trace := s.trace ++ [.rd none]
        transport := s.transport.afterRead
        out := some ⟨false, none⟩
        commands := s.commands.tail }

/-- R140: READ answered with a packet performs that packet's row; each packet has its own row (R76, log 9). -/
def Obligations.ReadPerformsTheRowOfItsPacket : Prop :=
  ∀ (s : State) (p : Packet), s.rxIndex = 0 → s.transport.readAnswer = some p →
    exec .read s = exec (decodePacket p) s ∧ encode (decodePacket p) = .pkt p.toWord

/-- R143, the 1-byte classes: CIN 0x5 and 0xF. -/
def Obligations.OneBytePacketIsClassifiedAndDelivered : Prop :=
  ∀ (s : State) (cn : Nibble) (d1 d2 d3 : Byte) (cin : Nibble) (i : Instr),
    s.fault = .none → s.rxIndex = 0 → (cin, i) ∈ packetRows cn d1 d2 d3 → cin ∈ [0x5#4, 0xF#4] →
    exec i s = .next
      { s with
        rxBuffer := { s.rxBuffer with b0 := d1 }
        rxIndex := 0
        trace := s.trace ++ [.rd (some ⟨cn ++ cin, d1, d2, d3⟩)]
        transport := s.transport.afterRead
        out := some ⟨true, some d1⟩
        commands := s.commands.tail }

/-- R143, the 2-byte classes: CIN 0x2, 0x6, 0xC and 0xD. -/
def Obligations.TwoBytePacketIsClassifiedAndDelivered : Prop :=
  ∀ (s : State) (cn : Nibble) (d1 d2 d3 : Byte) (cin : Nibble) (i : Instr),
    s.fault = .none → s.rxIndex = 0 → (cin, i) ∈ packetRows cn d1 d2 d3 →
    cin ∈ [0x2#4, 0x6#4, 0xC#4, 0xD#4] →
    exec i s = .next
      { s with
        rxBuffer := { s.rxBuffer with b0 := d2, b1 := d1 }
        rxIndex := 1
        trace := s.trace ++ [.rd (some ⟨cn ++ cin, d1, d2, d3⟩)]
        transport := s.transport.afterRead
        out := some ⟨true, some d1⟩
        commands := s.commands.tail }

/-- R143, the 3-byte classes: CIN 0x3, 0x4, 0x7, 0x8, 0x9, 0xA, 0xB and 0xE. -/
def Obligations.ThreeBytePacketIsClassifiedAndDelivered : Prop :=
  ∀ (s : State) (cn : Nibble) (d1 d2 d3 : Byte) (cin : Nibble) (i : Instr),
    s.fault = .none → s.rxIndex = 0 → (cin, i) ∈ packetRows cn d1 d2 d3 →
    cin ∈ [0x3#4, 0x4#4, 0x7#4, 0x8#4, 0x9#4, 0xA#4, 0xB#4, 0xE#4] →
    exec i s = .next
      { s with
        rxBuffer := ⟨d3, d2, d1⟩
        rxIndex := 2
        trace := s.trace ++ [.rd (some ⟨cn ++ cin, d1, d2, d3⟩)]
        transport := s.transport.afterRead
        out := some ⟨true, some d1⟩
        commands := s.commands.tail }

/-- R143 and R145, the unrecognised headers: CIN 0x0 and 0x1; the packet is dropped, no partial state is left. -/
def Obligations.UnrecognisedPacketIsDropped : Prop :=
  ∀ (s : State) (cn : Nibble) (d1 d2 d3 : Byte) (cin : Nibble) (i : Instr),
    s.fault = .none → s.rxIndex = 0 → (cin, i) ∈ packetRows cn d1 d2 d3 → cin ∈ [0x0#4, 0x1#4] →
    exec i s = .next
      { s with
        trace := s.trace ++ [.rd (some ⟨cn ++ cin, d1, d2, d3⟩)]
        transport := s.transport.afterRead
        out := some ⟨false, none⟩
        commands := s.commands.tail }

/-- R219: while bytes are undelivered READ delivers `rxBuffer[rxIndex - 1]` and a packet stays at the transport.  That
a packet's row is then that same READ is the model's choice (log 9). -/
def Obligations.UndeliveredBytesHoldBackPackets : Prop :=
  ∀ (s : State) (p : Packet), s.fault = .none → s.rxIndex ≠ 0 →
    ∃ t, exec .read s = .next t ∧ exec (decodePacket p) s = .next t ∧
      t.out = some ⟨true, some (s.rxBuffer.get (s.rxIndex.val - 1))⟩ ∧
      t.rxIndex.val + 1 = s.rxIndex.val ∧ t.trace = s.trace ∧ t.transport = s.transport ∧
      t.rxBuffer = s.rxBuffer

/-- R141: packets that differ only in their cable number are classified and delivered alike: the two states after
READ differ in nothing but the packet that `trace` records. -/
def Obligations.CableNumberIsIgnoredOnReceive : Prop :=
  ∀ (s : State) (p q : Packet) (more : List (Option Packet)), s.fault = .none → s.rxIndex = 0 →
    p.cin = q.cin → p.data1 = q.data1 → p.data2 = q.data2 → p.data3 = q.data3 →
    ∃ t u, exec .read { s with transport := { s.transport with readAnswers := some p :: more } } = .next t ∧
      exec .read { s with transport := { s.transport with readAnswers := some q :: more } } = .next u ∧
      t = { u with trace := t.trace } ∧ t.trace = s.trace ++ [.rd (some p)] ∧ u.trace = s.trace ++ [.rd (some q)]

/-! ### Lifecycle -/

/-- R160 and R161: INIT calls the hook, and clears the five codec registers exactly when `P_INIT_CLEARS_STATE`. -/
def Obligations.InitCallsTheHookAndMayClear : Prop :=
  decodeCmd 0x0100 = .ok .init ∧
  ∀ s : State, s.fault = .none →
    exec .init s = .next
      { s with
        activeType := if s.params.initClearsState then none else s.activeType
        txIndex := if s.params.initClearsState then 0 else s.txIndex
        txBuffer := if s.params.initClearsState then ⟨0x00, 0x00, 0x00, 0x00⟩ else s.txBuffer
        rxBuffer := if s.params.initClearsState then ⟨0x00, 0x00, 0x00⟩ else s.rxBuffer
        rxIndex := if s.params.initClearsState then 0 else s.rxIndex
        trace := s.trace ++ [.init s.transport.initAnswer]
        transport := s.transport.afterInit
        out := some ⟨s.transport.initAnswer, none⟩
        commands := s.commands.tail }

/-- R163: DEINIT calls the hook and writes no codec state. -/
def Obligations.DeinitOnlyCallsTheHook : Prop :=
  decodeCmd 0x0200 = .ok .deinit ∧
  ∀ s : State, s.fault = .none →
    exec .deinit s = .next
      { s with
        trace := s.trace ++ [.deInit s.transport.deInitAnswer]
        transport := s.transport.afterDeInit
        out := some ⟨s.transport.deInitAnswer, none⟩
        commands := s.commands.tail }

/-! ### Frames and whole-machine rules -/

/-- R35: transmit commands leave the receive registers, `refused`, the parameters and the transport's waiting packets;
READ leaves the transmit registers, `fault` and the answers to writes. -/
def Obligations.DirectionsShareNoState : Prop :=
  ∀ (i : Instr) (s t : State), exec i s = .next t →
    (isTransmit i → t.rxBuffer = s.rxBuffer ∧ t.rxIndex = s.rxIndex ∧ t.refused = s.refused ∧
      t.params = s.params ∧ t.transport.readAnswers = s.transport.readAnswers) ∧
    (isReceive i → t.activeType = s.activeType ∧ t.txIndex = s.txIndex ∧ t.txBuffer = s.txBuffer ∧
      t.fault = s.fault ∧ t.refused = s.refused ∧ t.params = s.params ∧
      t.transport.writeAnswers = s.transport.writeAnswers)

/-- R60 (c): a transmit command never changes what a later READ delivers, nor does a READ what a later END sends,
whatever packets the transport has waiting and whatever it answers. -/
def Obligations.NeitherDirectionDisturbsTheOther : Prop :=
  (∀ (i : Instr) (s t u : State), isTransmit i → exec i s = .next t → t.fault = .none →
    (s.rxIndex ≠ 0 ∨ s.transport.readAnswers ≠ []) → exec .read s = .next u →
    ∃ v, exec .read t = .next v ∧ v.out = u.out ∧ v.rxBuffer = u.rxBuffer ∧ v.rxIndex = u.rxIndex) ∧
  (∀ (i : Instr) (s t u : State), isReceive i → exec i s = .next t → s.activeType ≠ none →
    exec .endMessage s = .next u →
    ∃ v ok ok', exec .endMessage t = .next v ∧ u.trace = s.trace ++ [.wr s.txBuffer ok] ∧
      v.trace = t.trace ++ [.wr s.txBuffer ok'])

/-- R11 and R58: a command makes at most one transport call and records it; BEGIN, a non-sysex WRITE and a READ with
undelivered bytes make none. -/
def Obligations.AtMostOneTransportCallPerCommand : Prop :=
  ∀ (i : Instr) (s t : State), exec i s = .next t →
    ∃ es, t.trace = s.trace ++ es ∧ es.length ≤ 1 ∧ t.transport.calls = s.transport.calls + es.length ∧
      ((∃ ty, i = MessageType.beginInstr ty) → es = []) ∧
      ((∃ b, i = .write b) → s.activeType ≠ some .sysEx → es = []) ∧
      (isReceive i → s.rxIndex ≠ 0 → es = [])

/-- R24, R30, R31, R202: no step changes the parameters or clears `fault` or `refused`; no command sets `refused`;
the trace only grows. -/
def Obligations.StickyMarksAndParametersStay : Prop :=
  (∀ s t : State, step s = .next t → t.params = s.params ∧ s.fault = .none ∧
    (s.refused = true → t.refused = true) ∧ ∃ es, t.trace = s.trace ++ es) ∧
  (∀ (i : Instr) (s t : State), exec i s = .next t → t.refused = s.refused)

/-- R34: every step keeps the register invariants, from every state that meets them. -/
def Obligations.StepKeepsRegistersLegal : Prop :=
  ∀ s t : State, s.RegistersLegal → step s = .next t → t.RegistersLegal

/-- R79: every step keeps the wire invariant: whatever is handed to the transport carries the instance's cable number
and a CIN that the receive classification accepts. -/
def Obligations.StepKeepsWireLegal : Prop :=
  ∀ s t : State, s.WireLegal → step s = .next t → t.WireLegal

/-! ### Messages -/

/-- R105: a fixed-length message sends exactly one packet, and only at END: BEGIN and the WRITEs call no transport
primitive.  The packet has the image R106 gives. -/
def Obligations.FixedLengthMessageSendsOnePacket : Prop :=
  ∀ (i : Instr) (ty : MessageType) (w : CmdWord) (cin : Nibble) (bytes : List Byte) (s : State),
    (i, ty, w, cin) ∈ beginRows → ty ≠ .sysEx → ty.lenOf = some bytes.length →
    s.fault = .none → 3 ≤ s.params.txIndexLimit →
    (∃ m, performAll (i :: bytes.map Instr.write) s =
        some (m, List.replicate (bytes.length + 1) ⟨true, none⟩) ∧
      m.trace = s.trace ∧ m.transport = s.transport) ∧
    ∃ t outs, performAll (i :: bytes.map Instr.write ++ [.endMessage]) s = some (t, outs) ∧
      outs = List.replicate (bytes.length + 1) ⟨true, none⟩ ++ [⟨s.transport.writeAnswer, none⟩] ∧
      t.trace = s.trace ++
        [.wr { event := s.params.cable ++ cin
               data1 := bytes.getD 0 (if s.params.beginClearsData then 0x00 else s.txBuffer.data1)
               data2 := bytes.getD 1 (if s.params.beginClearsData then 0x00 else s.txBuffer.data2)
               data3 := bytes.getD 2 (if s.params.beginClearsData then 0x00 else s.txBuffer.data3) }
          s.transport.writeAnswer]

/-- R106, second half: the packet of a fixed-length message, fed to READ, gives its bytes in order. -/
def Obligations.FixedLengthRoundTrip : Prop :=
  ∀ (ty : MessageType) (bytes : List Byte) (s : State),
    ty.lenOf = some bytes.length → s.fault = .none → 3 ≤ s.params.txIndexLimit →
    ∃ t outs p ok, performAll (Pseudo.send ty bytes).expand s = some (t, outs) ∧
      t.trace = s.trace ++ [.wr p ok] ∧
      ∀ (u : State) (more : List (Option Packet)), u.fault = .none → u.rxIndex = 0 →
        u.transport.readAnswers = some p :: more →
        ∃ v, performAll (Pseudo.recv bytes.length).expand u = some (v, deliveries bytes) ∧
          v.rxIndex = 0 ∧ v.transport.readAnswers = more

/-- R132: the packets of a well-formed sysex message of any length, whatever the transport answers: groups of three
under CIN 0x4, the last packet with the terminator under its stop CIN; as many as a third of the bytes, rounded up. -/
def Obligations.SysexMessagePackets : Prop :=
  ∀ (body : List Byte) (s : State),
    (∀ b ∈ body, b ≠ 0xF7) → s.fault = .none → body.length + 2 ≤ s.params.txIndexLimit →
    ∃ t outs es, performAll (Pseudo.sysex body).expand s = some (t, outs) ∧ t.trace = s.trace ++ es ∧
      packetsSent es = sysexPackets s.params 0x00 0x00 ([0xF0] ++ body ++ [0xF7]) ∧
      es.length = (body.length + 2 + 2) / 3 ∧ t.txIndex = body.length + 2

/-- R133: a sysex message of any length, packetized and then read back, is the original byte sequence. -/
def Obligations.SysexRoundTrip : Prop :=
  ∀ (body : List Byte) (s : State),
    (∀ b ∈ body, b ≠ 0xF7) → s.fault = .none → body.length + 2 ≤ s.params.txIndexLimit →
    ∃ t outs es, performAll (Pseudo.sysex body).expand s = some (t, outs) ∧ t.trace = s.trace ++ es ∧
      ∀ (u : State) (more : List (Option Packet)), u.fault = .none → u.rxIndex = 0 →
        u.transport.readAnswers = (packetsSent es).map some ++ more →
        ∃ v, performAll (Pseudo.recv (body.length + 2)).expand u =
            some (v, deliveries ([0xF0] ++ body ++ [0xF7])) ∧
          v.rxIndex = 0 ∧ v.transport.readAnswers = more

/-- R146: recognised packets are delivered byte by byte in order, with one `HwRead` for each packet. -/
def Obligations.PacketsAreDeliveredInOrder : Prop :=
  ∀ (ps : List Packet) (more : List (Option Packet)) (s : State),
    s.fault = .none → s.rxIndex = 0 → (∀ p ∈ ps, p.cin ≠ 0x0 ∧ p.cin ≠ 0x1) →
    s.transport.readAnswers = ps.map some ++ more →
    ∃ t, performAll (List.replicate (ps.flatMap Packet.payload).length .read) s =
        some (t, deliveries (ps.flatMap Packet.payload)) ∧
      t.rxIndex = 0 ∧ t.trace = s.trace ++ ps.map (fun p => .rd (some p)) ∧
      t.transport.readAnswers = more

/-- R212: a well-formed command stream never faults and never sets `refused`, whatever the transport answers.  Where
INIT may stand in a stream is the model's reading (log 15). -/
def Obligations.WellFormedStreamsRunSafely : Prop :=
  ∀ (is : List Instr) (s : State),
    wellFormedStream s.params is = true → s.fault = .none → 3 ≤ s.params.txIndexLimit →
    s.commands = is.filterMap Instr.cmdWord →
    ∃ t, runSteps is.length s = .next t ∧ t.fault = .none ∧ t.refused = s.refused ∧ t.commands = []

/-- R86: a well-formed pseudo-instruction expands to commands that form a well-formed stream; a sysex body must leave
room under the limit for its two markers. -/
def Obligations.PseudoInstructionsExpandWellFormed : Prop :=
  ∀ (c : Params) (q : Pseudo), q.wf = true → (∀ body, q = .sysex body → body.length + 2 ≤ c.txIndexLimit) →
    wellFormedStream c q.expand = true ∧ ∀ i ∈ q.expand, i.cmdWord.isSome = true
end

