-- ==== Sys2Proof/Laws/Encoding.lean ====
section
/-! SUPPORT. The small lemmas of the encodings: header nibbles, packet words, command fields, type codes. -/

namespace Sys2Proof

/-- R53: the low nibble of an assembled header is its CIN. -/
@[simp] theorem header_cin_bits (cn cin : Nibble) : (header cn cin).extractLsb' 0 4 = cin := by
  revert cn cin; decide

/-- R53: the high nibble of an assembled header is its cable number. -/
@[simp] theorem header_cable_bits (cn cin : Nibble) : (header cn cin).extractLsb' 4 4 = cn := by
  revert cn cin; decide

/-- A byte is the header of its own two nibbles. -/
theorem header_of_nibbles (b : Byte) : header (b.extractLsb' 4 4) (b.extractLsb' 0 4) = b := by
  revert b; decide

theorem Packet.cin_mk (cn cin : Nibble) (d1 d2 d3 : Byte) : (mkPacket cn cin d1 d2 d3).cin = cin :=
  header_cin_bits cn cin

theorem Packet.cable_mk (cn cin : Nibble) (d1 d2 d3 : Byte) : (mkPacket cn cin d1 d2 d3).cable = cn :=
  header_cable_bits cn cin

/-- R74: the document's left shift keeps the CIN and drops the cable number. -/
theorem Packet.event_shifted (p : Packet) : p.event <<< 4 = p.cin ++ 0x0#4 := by
  have h : ∀ b : Byte, b <<< 4 = b.extractLsb' 0 4 ++ 0x0#4 := by decide
  exact h p.event

/-- Concatenation as arithmetic, R9. -/
theorem append_toNat {n m : Nat} (x : BitVec n) (y : BitVec m) :
    (x ++ y).toNat = x.toNat * 2 ^ m + y.toNat := by
  rw [BitVec.toNat_append, ← Nat.shiftLeft_add_eq_or_of_lt y.isLt, Nat.shiftLeft_eq]

/-- R80: a command word as a number. -/
theorem mkCmd_toNat (op : Nibble) (arg : Byte) : (mkCmd op arg).toNat = op.toNat * 256 + arg.toNat := by
  refine (append_toNat (0x0#4 ++ op) arg).trans ?_
  rw [append_toNat]
  simp only [BitVec.toNat_ofNat]
  omega

theorem cmdRsv_toNat (w : CmdWord) : (cmdRsv w).toNat = w.toNat / 4096 := by
  have := w.isLt
  simp [cmdRsv, BitVec.extractLsb'_toNat, Nat.shiftRight_eq_div_pow]; omega

theorem cmdOp_toNat (w : CmdWord) : (cmdOp w).toNat = w.toNat / 256 % 16 := by
  simp [cmdOp, BitVec.extractLsb'_toNat, Nat.shiftRight_eq_div_pow]

theorem cmdArg_toNat (w : CmdWord) : (cmdArg w).toNat = w.toNat % 256 := by
  simp [cmdArg, BitVec.extractLsb'_toNat]

theorem cmdRsv_mkCmd (op : Nibble) (arg : Byte) : cmdRsv (mkCmd op arg) = 0x0 := by
  apply BitVec.eq_of_toNat_eq
  have := op.isLt; have := arg.isLt
  rw [cmdRsv_toNat, mkCmd_toNat]; simp; omega

theorem cmdOp_mkCmd (op : Nibble) (arg : Byte) : cmdOp (mkCmd op arg) = op := by
  apply BitVec.eq_of_toNat_eq
  have := op.isLt; have := arg.isLt
  rw [cmdOp_toNat, mkCmd_toNat]; omega

theorem cmdArg_mkCmd (op : Nibble) (arg : Byte) : cmdArg (mkCmd op arg) = arg := by
  apply BitVec.eq_of_toNat_eq
  have := op.isLt; have := arg.isLt
  rw [cmdArg_toNat, mkCmd_toNat]; omega

/-- A command word whose `RSV` is 0 is made of its other two fields. -/
theorem mkCmd_of_fields (w : CmdWord) (h : cmdRsv w = 0x0) : mkCmd (cmdOp w) (cmdArg w) = w := by
  apply BitVec.eq_of_toNat_eq
  have h0 := congrArg BitVec.toNat h
  rw [cmdRsv_toNat] at h0
  rw [mkCmd_toNat, cmdOp_toNat, cmdArg_toNat]
  simp at h0; omega

/-- R71: a packet word as a number. -/
theorem Packet.toWord_toNat (p : Packet) : p.toWord.toNat =
    ((p.event.toNat * 256 + p.data1.toNat) * 256 + p.data2.toNat) * 256 + p.data3.toNat := by
  refine (append_toNat (p.event ++ p.data1 ++ p.data2) p.data3).trans ?_
  rw [append_toNat, append_toNat]
  omega

theorem Packet.ofWord_toWord (p : Packet) : Packet.ofWord p.toWord = p := by
  have h := p.toWord_toNat
  obtain ⟨e, d1, d2, d3⟩ := p
  have he := e.isLt; have h1 := d1.isLt; have h2 := d2.isLt; have h3 := d3.isLt
  simp only [Packet.ofWord, Packet.mk.injEq]
  refine ⟨?_, ?_, ?_, ?_⟩ <;> apply BitVec.eq_of_toNat_eq <;>
    simp only [BitVec.extractLsb'_toNat, Nat.shiftRight_eq_div_pow, h] <;> omega

theorem Packet.toWord_ofWord (w : PktWord) : (Packet.ofWord w).toWord = w := by
  apply BitVec.eq_of_toNat_eq
  rw [Packet.toWord_toNat]
  have := w.isLt
  simp only [Packet.ofWord, BitVec.extractLsb'_toNat, Nat.shiftRight_eq_div_pow]
  omega

/-- R75: a code names its own type. -/
theorem MessageType.ofCode_code (t : MessageType) : MessageType.ofCode t.code = some t := by
  cases t <;> decide

/-- R75: a byte that names a type is its code. -/
theorem MessageType.code_of_ofCode {b : Byte} {t : MessageType} (h : MessageType.ofCode b = some t) :
    t.code = b := by
  simpa using List.find?_some h

theorem Instr.beginType_beginInstr (t : MessageType) : t.beginInstr.beginType = some t := by
  cases t <;> decide

/-- An instruction that begins a type is that type's BEGIN. -/
theorem Instr.eq_of_beginType {i : Instr} {t : MessageType} (h : i.beginType = some t) : i = t.beginInstr := by
  have := List.find?_some h
  exact (by simpa using this : t.beginInstr = i).symm

/-- The decoder on the word of a BEGIN. -/
theorem decodeCmd_begin (t : MessageType) : decodeCmd (mkCmd 0x3 t.code) = .ok t.beginInstr := by
  cases t <;> decide

/-- The decoder on the word of a WRITE. -/
theorem decodeCmd_write (b : Byte) : decodeCmd (mkCmd 0x4 b) = .ok (.write b) := by
  simp [decodeCmd, cmdRsv_mkCmd, cmdOp_mkCmd, cmdArg_mkCmd]

theorem encode_beginInstr (t : MessageType) : encode t.beginInstr = .cmd (mkCmd 0x3 t.code) := by
  cases t <;> rfl

end Sys2Proof
end

