-- ==== Sys2Proof/Laws/State.lean ====
section
/-! SUPPORT. For each update of the state, what each field holds after it: one lemma a field, true by rfl. -/

namespace Sys2Proof.Machine

@[simp] theorem State.takeCommand_activeType (s : State) : (s.takeCommand).activeType = s.activeType := rfl
@[simp] theorem State.takeCommand_txIndex (s : State) : (s.takeCommand).txIndex = s.txIndex := rfl
@[simp] theorem State.takeCommand_txBuffer (s : State) : (s.takeCommand).txBuffer = s.txBuffer := rfl
@[simp] theorem State.takeCommand_rxBuffer (s : State) : (s.takeCommand).rxBuffer = s.rxBuffer := rfl
@[simp] theorem State.takeCommand_rxIndex (s : State) : (s.takeCommand).rxIndex = s.rxIndex := rfl
@[simp] theorem State.takeCommand_fault (s : State) : (s.takeCommand).fault = s.fault := rfl
@[simp] theorem State.takeCommand_refused (s : State) : (s.takeCommand).refused = s.refused := rfl
@[simp] theorem State.takeCommand_trace (s : State) : (s.takeCommand).trace = s.trace := rfl
@[simp] theorem State.takeCommand_params (s : State) : (s.takeCommand).params = s.params := rfl
@[simp] theorem State.takeCommand_out (s : State) : (s.takeCommand).out = s.out := rfl
@[simp] theorem State.takeCommand_commands (s : State) : (s.takeCommand).commands = s.commands.tail := rfl
@[simp] theorem State.takeCommand_transport (s : State) : (s.takeCommand).transport = s.transport := rfl

@[simp] theorem State.returns_activeType (s : State) (r : Bool) (d : Option Byte) :
    (s.returns r d).activeType = s.activeType := rfl
@[simp] theorem State.returns_txIndex (s : State) (r : Bool) (d : Option Byte) :
    (s.returns r d).txIndex = s.txIndex := rfl
@[simp] theorem State.returns_txBuffer (s : State) (r : Bool) (d : Option Byte) :
    (s.returns r d).txBuffer = s.txBuffer := rfl
@[simp] theorem State.returns_rxBuffer (s : State) (r : Bool) (d : Option Byte) :
    (s.returns r d).rxBuffer = s.rxBuffer := rfl
@[simp] theorem State.returns_rxIndex (s : State) (r : Bool) (d : Option Byte) :
    (s.returns r d).rxIndex = s.rxIndex := rfl
@[simp] theorem State.returns_fault (s : State) (r : Bool) (d : Option Byte) : (s.returns r d).fault = s.fault := rfl
@[simp] theorem State.returns_refused (s : State) (r : Bool) (d : Option Byte) :
    (s.returns r d).refused = s.refused := rfl
@[simp] theorem State.returns_trace (s : State) (r : Bool) (d : Option Byte) : (s.returns r d).trace = s.trace := rfl
@[simp] theorem State.returns_params (s : State) (r : Bool) (d : Option Byte) : (s.returns r d).params = s.params := rfl
@[simp] theorem State.returns_out (s : State) (r : Bool) (d : Option Byte) : (s.returns r d).out = some ⟨r, d⟩ := rfl
@[simp] theorem State.returns_commands (s : State) (r : Bool) (d : Option Byte) :
    (s.returns r d).commands = s.commands := rfl
@[simp] theorem State.returns_transport (s : State) (r : Bool) (d : Option Byte) :
    (s.returns r d).transport = s.transport := rfl

@[simp] theorem State.noResult_activeType (s : State) : (s.noResult).activeType = s.activeType := rfl
@[simp] theorem State.noResult_txIndex (s : State) : (s.noResult).txIndex = s.txIndex := rfl
@[simp] theorem State.noResult_txBuffer (s : State) : (s.noResult).txBuffer = s.txBuffer := rfl
@[simp] theorem State.noResult_rxBuffer (s : State) : (s.noResult).rxBuffer = s.rxBuffer := rfl
@[simp] theorem State.noResult_rxIndex (s : State) : (s.noResult).rxIndex = s.rxIndex := rfl
@[simp] theorem State.noResult_fault (s : State) : (s.noResult).fault = s.fault := rfl
@[simp] theorem State.noResult_refused (s : State) : (s.noResult).refused = s.refused := rfl
@[simp] theorem State.noResult_trace (s : State) : (s.noResult).trace = s.trace := rfl
@[simp] theorem State.noResult_params (s : State) : (s.noResult).params = s.params := rfl
@[simp] theorem State.noResult_out (s : State) : (s.noResult).out = none := rfl
@[simp] theorem State.noResult_commands (s : State) : (s.noResult).commands = s.commands := rfl
@[simp] theorem State.noResult_transport (s : State) : (s.noResult).transport = s.transport := rfl

@[simp] theorem State.raiseFault_activeType (s : State) (code : FaultCode) :
    (s.raiseFault code).activeType = s.activeType := rfl
@[simp] theorem State.raiseFault_txIndex (s : State) (code : FaultCode) : (s.raiseFault code).txIndex = s.txIndex := rfl
@[simp] theorem State.raiseFault_txBuffer (s : State) (code : FaultCode) :
    (s.raiseFault code).txBuffer = s.txBuffer := rfl
@[simp] theorem State.raiseFault_rxBuffer (s : State) (code : FaultCode) :
    (s.raiseFault code).rxBuffer = s.rxBuffer := rfl
@[simp] theorem State.raiseFault_rxIndex (s : State) (code : FaultCode) : (s.raiseFault code).rxIndex = s.rxIndex := rfl
@[simp] theorem State.raiseFault_fault (s : State) (code : FaultCode) : (s.raiseFault code).fault = code := rfl
@[simp] theorem State.raiseFault_refused (s : State) (code : FaultCode) : (s.raiseFault code).refused = s.refused := rfl
@[simp] theorem State.raiseFault_trace (s : State) (code : FaultCode) : (s.raiseFault code).trace = s.trace := rfl
@[simp] theorem State.raiseFault_params (s : State) (code : FaultCode) : (s.raiseFault code).params = s.params := rfl
@[simp] theorem State.raiseFault_out (s : State) (code : FaultCode) : (s.raiseFault code).out = none := rfl
@[simp] theorem State.raiseFault_commands (s : State) (code : FaultCode) :
    (s.raiseFault code).commands = s.commands := rfl
@[simp] theorem State.raiseFault_transport (s : State) (code : FaultCode) :
    (s.raiseFault code).transport = s.transport := rfl

@[simp] theorem State.hwInit_activeType (s : State) : (s.hwInit).activeType = s.activeType := rfl
@[simp] theorem State.hwInit_txIndex (s : State) : (s.hwInit).txIndex = s.txIndex := rfl
@[simp] theorem State.hwInit_txBuffer (s : State) : (s.hwInit).txBuffer = s.txBuffer := rfl
@[simp] theorem State.hwInit_rxBuffer (s : State) : (s.hwInit).rxBuffer = s.rxBuffer := rfl
@[simp] theorem State.hwInit_rxIndex (s : State) : (s.hwInit).rxIndex = s.rxIndex := rfl
@[simp] theorem State.hwInit_fault (s : State) : (s.hwInit).fault = s.fault := rfl
@[simp] theorem State.hwInit_refused (s : State) : (s.hwInit).refused = s.refused := rfl
@[simp] theorem State.hwInit_trace (s : State) : (s.hwInit).trace = s.trace ++ [.init s.transport.initAnswer] := rfl
@[simp] theorem State.hwInit_params (s : State) : (s.hwInit).params = s.params := rfl
@[simp] theorem State.hwInit_out (s : State) : (s.hwInit).out = some ⟨s.transport.initAnswer, none⟩ := rfl
@[simp] theorem State.hwInit_commands (s : State) : (s.hwInit).commands = s.commands := rfl
@[simp] theorem State.hwInit_transport (s : State) : (s.hwInit).transport = s.transport.afterInit := rfl

@[simp] theorem State.hwDeInit_activeType (s : State) : (s.hwDeInit).activeType = s.activeType := rfl
@[simp] theorem State.hwDeInit_txIndex (s : State) : (s.hwDeInit).txIndex = s.txIndex := rfl
@[simp] theorem State.hwDeInit_txBuffer (s : State) : (s.hwDeInit).txBuffer = s.txBuffer := rfl
@[simp] theorem State.hwDeInit_rxBuffer (s : State) : (s.hwDeInit).rxBuffer = s.rxBuffer := rfl
@[simp] theorem State.hwDeInit_rxIndex (s : State) : (s.hwDeInit).rxIndex = s.rxIndex := rfl
@[simp] theorem State.hwDeInit_fault (s : State) : (s.hwDeInit).fault = s.fault := rfl
@[simp] theorem State.hwDeInit_refused (s : State) : (s.hwDeInit).refused = s.refused := rfl
@[simp] theorem State.hwDeInit_trace (s : State) :
    (s.hwDeInit).trace = s.trace ++ [.deInit s.transport.deInitAnswer] := rfl
@[simp] theorem State.hwDeInit_params (s : State) : (s.hwDeInit).params = s.params := rfl
@[simp] theorem State.hwDeInit_out (s : State) : (s.hwDeInit).out = some ⟨s.transport.deInitAnswer, none⟩ := rfl
@[simp] theorem State.hwDeInit_commands (s : State) : (s.hwDeInit).commands = s.commands := rfl
@[simp] theorem State.hwDeInit_transport (s : State) : (s.hwDeInit).transport = s.transport.afterDeInit := rfl

@[simp] theorem State.hwWrite_activeType (s : State) : (s.hwWrite).activeType = s.activeType := rfl
@[simp] theorem State.hwWrite_txIndex (s : State) : (s.hwWrite).txIndex = s.txIndex := rfl
@[simp] theorem State.hwWrite_txBuffer (s : State) : (s.hwWrite).txBuffer = s.txBuffer := rfl
@[simp] theorem State.hwWrite_rxBuffer (s : State) : (s.hwWrite).rxBuffer = s.rxBuffer := rfl
@[simp] theorem State.hwWrite_rxIndex (s : State) : (s.hwWrite).rxIndex = s.rxIndex := rfl
@[simp] theorem State.hwWrite_fault (s : State) : (s.hwWrite).fault = s.fault := rfl
@[simp] theorem State.hwWrite_refused (s : State) : (s.hwWrite).refused = s.refused := rfl
@[simp] theorem State.hwWrite_trace (s : State) :
    (s.hwWrite).trace = s.trace ++ [.wr s.txBuffer s.transport.writeAnswer] := rfl
@[simp] theorem State.hwWrite_params (s : State) : (s.hwWrite).params = s.params := rfl
@[simp] theorem State.hwWrite_out (s : State) : (s.hwWrite).out = some ⟨s.transport.writeAnswer, none⟩ := rfl
@[simp] theorem State.hwWrite_commands (s : State) : (s.hwWrite).commands = s.commands := rfl
@[simp] theorem State.hwWrite_transport (s : State) : (s.hwWrite).transport = s.transport.afterWrite := rfl

@[simp] theorem State.hwRead_activeType (s : State) (r : Option Packet) : (s.hwRead r).activeType = s.activeType := rfl
@[simp] theorem State.hwRead_txIndex (s : State) (r : Option Packet) : (s.hwRead r).txIndex = s.txIndex := rfl
@[simp] theorem State.hwRead_txBuffer (s : State) (r : Option Packet) : (s.hwRead r).txBuffer = s.txBuffer := rfl
@[simp] theorem State.hwRead_rxBuffer (s : State) (r : Option Packet) : (s.hwRead r).rxBuffer = s.rxBuffer := rfl
@[simp] theorem State.hwRead_rxIndex (s : State) (r : Option Packet) : (s.hwRead r).rxIndex = s.rxIndex := rfl
@[simp] theorem State.hwRead_fault (s : State) (r : Option Packet) : (s.hwRead r).fault = s.fault := rfl
@[simp] theorem State.hwRead_refused (s : State) (r : Option Packet) : (s.hwRead r).refused = s.refused := rfl
@[simp] theorem State.hwRead_trace (s : State) (r : Option Packet) : (s.hwRead r).trace = s.trace ++ [.rd r] := rfl
@[simp] theorem State.hwRead_params (s : State) (r : Option Packet) : (s.hwRead r).params = s.params := rfl
@[simp] theorem State.hwRead_out (s : State) (r : Option Packet) : (s.hwRead r).out = s.out := rfl
@[simp] theorem State.hwRead_commands (s : State) (r : Option Packet) : (s.hwRead r).commands = s.commands := rfl
@[simp] theorem State.hwRead_transport (s : State) (r : Option Packet) :
    (s.hwRead r).transport = s.transport.afterRead := rfl

@[simp] theorem State.deliver_activeType (s : State) : (s.deliver).activeType = s.activeType := rfl
@[simp] theorem State.deliver_txIndex (s : State) : (s.deliver).txIndex = s.txIndex := rfl
@[simp] theorem State.deliver_txBuffer (s : State) : (s.deliver).txBuffer = s.txBuffer := rfl
@[simp] theorem State.deliver_rxBuffer (s : State) : (s.deliver).rxBuffer = s.rxBuffer := rfl
@[simp] theorem State.deliver_rxIndex (s : State) : (s.deliver).rxIndex = s.rxIndex - 1 := rfl
@[simp] theorem State.deliver_fault (s : State) : (s.deliver).fault = s.fault := rfl
@[simp] theorem State.deliver_refused (s : State) : (s.deliver).refused = s.refused := rfl
@[simp] theorem State.deliver_trace (s : State) : (s.deliver).trace = s.trace := rfl
@[simp] theorem State.deliver_params (s : State) : (s.deliver).params = s.params := rfl
@[simp] theorem State.deliver_out (s : State) :
    (s.deliver).out = some ⟨true, some (s.rxBuffer.get (s.rxIndex.val - 1))⟩ := rfl
@[simp] theorem State.deliver_commands (s : State) : (s.deliver).commands = s.commands := rfl
@[simp] theorem State.deliver_transport (s : State) : (s.deliver).transport = s.transport := rfl

@[simp] theorem State.refuseWord_activeType (s : State) : (s.refuseWord).activeType = s.activeType := rfl
@[simp] theorem State.refuseWord_txIndex (s : State) : (s.refuseWord).txIndex = s.txIndex := rfl
@[simp] theorem State.refuseWord_txBuffer (s : State) : (s.refuseWord).txBuffer = s.txBuffer := rfl
@[simp] theorem State.refuseWord_rxBuffer (s : State) : (s.refuseWord).rxBuffer = s.rxBuffer := rfl
@[simp] theorem State.refuseWord_rxIndex (s : State) : (s.refuseWord).rxIndex = s.rxIndex := rfl
@[simp] theorem State.refuseWord_fault (s : State) : (s.refuseWord).fault = s.fault := rfl
@[simp] theorem State.refuseWord_refused (s : State) : (s.refuseWord).refused = true := rfl
@[simp] theorem State.refuseWord_trace (s : State) : (s.refuseWord).trace = s.trace := rfl
@[simp] theorem State.refuseWord_params (s : State) : (s.refuseWord).params = s.params := rfl
@[simp] theorem State.refuseWord_out (s : State) : (s.refuseWord).out = some ⟨false, none⟩ := rfl
@[simp] theorem State.refuseWord_commands (s : State) : (s.refuseWord).commands = s.commands.tail := rfl
@[simp] theorem State.refuseWord_transport (s : State) : (s.refuseWord).transport = s.transport := rfl

@[simp] theorem State.clearCodec_activeType (s : State) : (s.clearCodec).activeType = none := rfl
@[simp] theorem State.clearCodec_txIndex (s : State) : (s.clearCodec).txIndex = 0 := rfl
@[simp] theorem State.clearCodec_txBuffer (s : State) : (s.clearCodec).txBuffer = ⟨0x00, 0x00, 0x00, 0x00⟩ := rfl
@[simp] theorem State.clearCodec_rxBuffer (s : State) : (s.clearCodec).rxBuffer = ⟨0x00, 0x00, 0x00⟩ := rfl
@[simp] theorem State.clearCodec_rxIndex (s : State) : (s.clearCodec).rxIndex = 0 := rfl
@[simp] theorem State.clearCodec_fault (s : State) : (s.clearCodec).fault = s.fault := rfl
@[simp] theorem State.clearCodec_refused (s : State) : (s.clearCodec).refused = s.refused := rfl
@[simp] theorem State.clearCodec_trace (s : State) : (s.clearCodec).trace = s.trace := rfl
@[simp] theorem State.clearCodec_params (s : State) : (s.clearCodec).params = s.params := rfl
@[simp] theorem State.clearCodec_out (s : State) : (s.clearCodec).out = s.out := rfl
@[simp] theorem State.clearCodec_commands (s : State) : (s.clearCodec).commands = s.commands := rfl
@[simp] theorem State.clearCodec_transport (s : State) : (s.clearCodec).transport = s.transport := rfl

@[simp] theorem State.acceptNone_activeType (s : State) : (s.acceptNone).activeType = s.activeType := rfl
@[simp] theorem State.acceptNone_txIndex (s : State) : (s.acceptNone).txIndex = s.txIndex := rfl
@[simp] theorem State.acceptNone_txBuffer (s : State) : (s.acceptNone).txBuffer = s.txBuffer := rfl
@[simp] theorem State.acceptNone_rxBuffer (s : State) : (s.acceptNone).rxBuffer = s.rxBuffer := rfl
@[simp] theorem State.acceptNone_rxIndex (s : State) : (s.acceptNone).rxIndex = s.rxIndex := rfl
@[simp] theorem State.acceptNone_fault (s : State) : (s.acceptNone).fault = s.fault := rfl
@[simp] theorem State.acceptNone_refused (s : State) : (s.acceptNone).refused = s.refused := rfl
@[simp] theorem State.acceptNone_trace (s : State) : (s.acceptNone).trace = s.trace ++ [.rd none] := rfl
@[simp] theorem State.acceptNone_params (s : State) : (s.acceptNone).params = s.params := rfl
@[simp] theorem State.acceptNone_out (s : State) : (s.acceptNone).out = some ⟨false, none⟩ := rfl
@[simp] theorem State.acceptNone_commands (s : State) : (s.acceptNone).commands = s.commands := rfl
@[simp] theorem State.acceptNone_transport (s : State) : (s.acceptNone).transport = s.transport.afterRead := rfl

@[simp] theorem State.issue_activeType (s : State) (w : CmdWord) : (s.issue w).activeType = s.activeType := rfl
@[simp] theorem State.issue_txIndex (s : State) (w : CmdWord) : (s.issue w).txIndex = s.txIndex := rfl
@[simp] theorem State.issue_txBuffer (s : State) (w : CmdWord) : (s.issue w).txBuffer = s.txBuffer := rfl
@[simp] theorem State.issue_rxBuffer (s : State) (w : CmdWord) : (s.issue w).rxBuffer = s.rxBuffer := rfl
@[simp] theorem State.issue_rxIndex (s : State) (w : CmdWord) : (s.issue w).rxIndex = s.rxIndex := rfl
@[simp] theorem State.issue_fault (s : State) (w : CmdWord) : (s.issue w).fault = s.fault := rfl
@[simp] theorem State.issue_refused (s : State) (w : CmdWord) : (s.issue w).refused = s.refused := rfl
@[simp] theorem State.issue_trace (s : State) (w : CmdWord) : (s.issue w).trace = s.trace := rfl
@[simp] theorem State.issue_params (s : State) (w : CmdWord) : (s.issue w).params = s.params := rfl
@[simp] theorem State.issue_out (s : State) (w : CmdWord) : (s.issue w).out = s.out := rfl
@[simp] theorem State.issue_commands (s : State) (w : CmdWord) : (s.issue w).commands = w :: s.commands := rfl
@[simp] theorem State.issue_transport (s : State) (w : CmdWord) : (s.issue w).transport = s.transport := rfl

@[simp] theorem State.beginMessage_activeType (t : MessageType) (s : State) :
    (s.beginMessage t).activeType = some t := rfl
@[simp] theorem State.beginMessage_txIndex (t : MessageType) (s : State) : (s.beginMessage t).txIndex = 0 := rfl
@[simp] theorem State.beginMessage_txBuffer (t : MessageType) (s : State) :
    (s.beginMessage t).txBuffer = beginPacket s.params t s.txBuffer := rfl
@[simp] theorem State.beginMessage_rxBuffer (t : MessageType) (s : State) :
    (s.beginMessage t).rxBuffer = s.rxBuffer := rfl
@[simp] theorem State.beginMessage_rxIndex (t : MessageType) (s : State) : (s.beginMessage t).rxIndex = s.rxIndex := rfl
@[simp] theorem State.beginMessage_fault (t : MessageType) (s : State) : (s.beginMessage t).fault = s.fault := rfl
@[simp] theorem State.beginMessage_refused (t : MessageType) (s : State) : (s.beginMessage t).refused = s.refused := rfl
@[simp] theorem State.beginMessage_trace (t : MessageType) (s : State) : (s.beginMessage t).trace = s.trace := rfl
@[simp] theorem State.beginMessage_params (t : MessageType) (s : State) : (s.beginMessage t).params = s.params := rfl
@[simp] theorem State.beginMessage_out (t : MessageType) (s : State) : (s.beginMessage t).out = some ⟨true, none⟩ := rfl
@[simp] theorem State.beginMessage_commands (t : MessageType) (s : State) :
    (s.beginMessage t).commands = s.commands := rfl
@[simp] theorem State.beginMessage_transport (t : MessageType) (s : State) :
    (s.beginMessage t).transport = s.transport := rfl

@[simp] theorem State.nonSysexStore_activeType (b : Byte) (s : State) :
    (s.nonSysexStore b).activeType = s.activeType := rfl
@[simp] theorem State.nonSysexStore_txIndex (b : Byte) (s : State) : (s.nonSysexStore b).txIndex = s.txIndex := rfl
@[simp] theorem State.nonSysexStore_txBuffer (b : Byte) (s : State) :
    (s.nonSysexStore b).txBuffer = s.txBuffer.setSlot s.txIndex b := rfl
@[simp] theorem State.nonSysexStore_rxBuffer (b : Byte) (s : State) : (s.nonSysexStore b).rxBuffer = s.rxBuffer := rfl
@[simp] theorem State.nonSysexStore_rxIndex (b : Byte) (s : State) : (s.nonSysexStore b).rxIndex = s.rxIndex := rfl
@[simp] theorem State.nonSysexStore_fault (b : Byte) (s : State) : (s.nonSysexStore b).fault = s.fault := rfl
@[simp] theorem State.nonSysexStore_refused (b : Byte) (s : State) : (s.nonSysexStore b).refused = s.refused := rfl
@[simp] theorem State.nonSysexStore_trace (b : Byte) (s : State) : (s.nonSysexStore b).trace = s.trace := rfl
@[simp] theorem State.nonSysexStore_params (b : Byte) (s : State) : (s.nonSysexStore b).params = s.params := rfl
@[simp] theorem State.nonSysexStore_out (b : Byte) (s : State) : (s.nonSysexStore b).out = some ⟨true, none⟩ := rfl
@[simp] theorem State.nonSysexStore_commands (b : Byte) (s : State) : (s.nonSysexStore b).commands = s.commands := rfl
@[simp] theorem State.nonSysexStore_transport (b : Byte) (s : State) :
    (s.nonSysexStore b).transport = s.transport := rfl

@[simp] theorem Transport.afterInit_initAnswers (t : Transport) : t.afterInit.initAnswers = t.initAnswers.tail := rfl
@[simp] theorem Transport.afterInit_deInitAnswers (t : Transport) : t.afterInit.deInitAnswers = t.deInitAnswers := rfl
@[simp] theorem Transport.afterInit_writeAnswers (t : Transport) : t.afterInit.writeAnswers = t.writeAnswers := rfl
@[simp] theorem Transport.afterInit_readAnswers (t : Transport) : t.afterInit.readAnswers = t.readAnswers := rfl
@[simp] theorem Transport.afterInit_calls (t : Transport) : t.afterInit.calls = t.calls + 1 := rfl

@[simp] theorem Transport.afterDeInit_initAnswers (t : Transport) : t.afterDeInit.initAnswers = t.initAnswers := rfl
@[simp] theorem Transport.afterDeInit_deInitAnswers (t : Transport) : t.afterDeInit.deInitAnswers = t.deInitAnswers.tail := rfl
@[simp] theorem Transport.afterDeInit_writeAnswers (t : Transport) : t.afterDeInit.writeAnswers = t.writeAnswers := rfl
@[simp] theorem Transport.afterDeInit_readAnswers (t : Transport) : t.afterDeInit.readAnswers = t.readAnswers := rfl
@[simp] theorem Transport.afterDeInit_calls (t : Transport) : t.afterDeInit.calls = t.calls + 1 := rfl

@[simp] theorem Transport.afterWrite_initAnswers (t : Transport) : t.afterWrite.initAnswers = t.initAnswers := rfl
@[simp] theorem Transport.afterWrite_deInitAnswers (t : Transport) : t.afterWrite.deInitAnswers = t.deInitAnswers := rfl
@[simp] theorem Transport.afterWrite_writeAnswers (t : Transport) : t.afterWrite.writeAnswers = t.writeAnswers.tail := rfl
@[simp] theorem Transport.afterWrite_readAnswers (t : Transport) : t.afterWrite.readAnswers = t.readAnswers := rfl
@[simp] theorem Transport.afterWrite_calls (t : Transport) : t.afterWrite.calls = t.calls + 1 := rfl

@[simp] theorem Transport.afterRead_initAnswers (t : Transport) : t.afterRead.initAnswers = t.initAnswers := rfl
@[simp] theorem Transport.afterRead_deInitAnswers (t : Transport) : t.afterRead.deInitAnswers = t.deInitAnswers := rfl
@[simp] theorem Transport.afterRead_writeAnswers (t : Transport) : t.afterRead.writeAnswers = t.writeAnswers := rfl
@[simp] theorem Transport.afterRead_readAnswers (t : Transport) : t.afterRead.readAnswers = t.readAnswers.tail := rfl
@[simp] theorem Transport.afterRead_calls (t : Transport) : t.afterRead.calls = t.calls + 1 := rfl

theorem State.resetWith_activeType (c : Params) : (State.resetWith c).activeType = none := rfl
theorem State.resetWith_txIndex (c : Params) : (State.resetWith c).txIndex = 0 := rfl
theorem State.resetWith_txBuffer (c : Params) : (State.resetWith c).txBuffer = ⟨0x00, 0x00, 0x00, 0x00⟩ := rfl
theorem State.resetWith_rxBuffer (c : Params) : (State.resetWith c).rxBuffer = ⟨0x00, 0x00, 0x00⟩ := rfl
theorem State.resetWith_rxIndex (c : Params) : (State.resetWith c).rxIndex = 0 := rfl
theorem State.resetWith_fault (c : Params) : (State.resetWith c).fault = .none := rfl
theorem State.resetWith_refused (c : Params) : (State.resetWith c).refused = false := rfl
theorem State.resetWith_trace (c : Params) : (State.resetWith c).trace = [] := rfl
theorem State.resetWith_params (c : Params) : (State.resetWith c).params = c := rfl
theorem State.resetWith_out (c : Params) : (State.resetWith c).out = none := rfl
theorem State.resetWith_commands (c : Params) : (State.resetWith c).commands = [] := rfl
theorem State.resetWith_transport (c : Params) : (State.resetWith c).transport = ⟨[], [], [], [], 0⟩ := rfl

/-- `State.reset` is the reset of the instance Config describes. -/
theorem State.reset_eq : State.reset = State.resetWith Config.params := rfl

end Sys2Proof.Machine
end

