-- ==== Sys2Proof/Laws/Ops.lean ====
section
/-! SUPPORT. For each shared operation, one lemma that says everything it can do. -/

namespace Sys2Proof.Machine

/-- R11: what it is to perform a command. -/
theorem State.perform_eq_next_iff (effect : State → State) (s t : State) :
    s.perform effect = .next t ↔ s.fault = .none ∧ t = effect s.takeCommand := by
  unfold State.perform
  split <;> simp_all [eq_comm]

theorem State.perform_ok (effect : State → State) {s : State} (h : s.fault = .none) :
    s.perform effect = .next (effect s.takeCommand) := by
  simp [State.perform, h]

theorem State.perform_faulted (effect : State → State) {s : State} (h : s.fault ≠ .none) :
    s.perform effect = .fault (.quiescent s.fault) := by
  simp [State.perform, h]

/-- R102, R178: when a WRITE faults, and with which code. -/
theorem State.writeFault_cases (s : State) :
    (s.writeFault = some .noTransmission ∧ s.activeType = none) ∨
    (∃ t, s.activeType = some t ∧
      ((s.writeFault = some .txOverrun ∧ t ≠ .sysEx ∧ 3 ≤ s.txIndex) ∨
       (s.writeFault = some .txIndexOverflow ∧ (t = .sysEx ∨ s.txIndex < 3) ∧
          s.txIndex = s.params.txIndexLimit) ∨
       (s.writeFault = none ∧ (t = .sysEx ∨ s.txIndex < 3) ∧ s.txIndex ≠ s.params.txIndexLimit))) := by
  unfold State.writeFault
  cases hA : s.activeType with
  | none => simp
  | some t =>
    refine Or.inr ⟨t, rfl, ?_⟩
    by_cases h1 : t ≠ .sysEx ∧ 3 ≤ s.txIndex
    · simp [h1]
    · have h2 : t = .sysEx ∨ s.txIndex < 3 := by
        by_cases h : t = .sysEx
        · exact Or.inl h
        · exact Or.inr (by by_contra h3; exact h1 ⟨h, by omega⟩)
      by_cases h3 : s.txIndex = s.params.txIndexLimit
      · right; left
        exact ⟨(if_neg h1).trans (if_pos h3), h2, h3⟩
      · right; right
        exact ⟨(if_neg h1).trans (if_neg h3), h2, h3⟩

/-- Everything a WRITE can do, R102. -/
theorem State.writeByte_cases (b : Byte) (s : State) :
    (∃ code, s.writeFault = some code ∧ s.writeByte b = s.raiseFault code) ∨
    (s.writeFault = none ∧ s.activeType = some .sysEx ∧
      s.writeByte b = { s.sysexStore b with txIndex := (s.sysexStore b).txIndex + 1 }) ∨
    (s.writeFault = none ∧ s.activeType ≠ some .sysEx ∧
      s.writeByte b = { s.nonSysexStore b with txIndex := s.txIndex + 1 }) := by
  unfold State.writeByte
  cases hF : s.writeFault with
  | some code => exact Or.inl ⟨code, rfl, rfl⟩
  | none =>
    by_cases hA : s.activeType = some .sysEx
    · exact Or.inr (Or.inl ⟨rfl, hA, by simp [hA]⟩)
    · exact Or.inr (Or.inr ⟨rfl, hA, by simp [hA]⟩)

/-- Everything the fragmentor can do, R120: with or without the auto-flush of R126. -/
theorem State.sysexStore_cases (b : Byte) (s : State) :
    (s.txIndex % 3 = 2 ∧ b ≠ sysexStopByte ∧
      s.sysexStore b =
        State.hwWrite { s with txBuffer := sysexPacket s.params (s.txIndex % 3) b s.txBuffer }) ∨
    ((s.txIndex % 3 ≠ 2 ∨ b = sysexStopByte) ∧
      s.sysexStore b =
        State.returns { s with txBuffer := sysexPacket s.params (s.txIndex % 3) b s.txBuffer } true none) := by
  unfold State.sysexStore
  by_cases h : autoFlushes (s.txIndex % 3) b = true
  · have h' := h
    simp [autoFlushes] at h'
    exact Or.inl ⟨h'.1, h'.2, by simp [h]⟩
  · have h' := h
    simp [autoFlushes] at h'
    refine Or.inr ⟨?_, by simp [h]⟩
    by_cases hp : s.txIndex % 3 = 2
    · exact Or.inr (h' hp)
    · exact Or.inl hp

/-- R104: an END faults, or sends the buffer. -/
theorem State.flush_cases (s : State) :
    (s.activeType = none ∧ s.flush = s.raiseFault .noTransmission) ∨
    (s.activeType ≠ none ∧ s.flush = s.hwWrite) := by
  unfold State.flush
  cases s.activeType <;> simp

/-- Everything classification can do, R143. -/
theorem State.classify_cases (s : State) (c : RxClass) (p : Packet) :
    (c = .one ∧ s.classify c p = some { s with rxBuffer := { s.rxBuffer with b0 := p.data1 }, rxIndex := 1 }) ∨
    (c = .two ∧ s.classify c p =
      some { s with rxBuffer := { s.rxBuffer with b0 := p.data2, b1 := p.data1 }, rxIndex := 2 }) ∨
    (c = .three ∧ s.classify c p = some { s with rxBuffer := ⟨p.data3, p.data2, p.data1⟩, rxIndex := 3 }) ∨
    (c = .unrecognised ∧ s.classify c p = none) := by
  cases c <;> simp [State.classify]

/-- R143 and R144 for a 1-byte packet. -/
theorem State.acceptPacket_one (p : Packet) (s : State) :
    s.acceptPacket .one p =
      { s with rxBuffer := { s.rxBuffer with b0 := p.data1 }, rxIndex := 0,
               trace := s.trace ++ [.rd (some p)], transport := s.transport.afterRead,
               out := some ⟨true, some p.data1⟩ } := rfl

/-- R143 and R144 for a 2-byte packet. -/
theorem State.acceptPacket_two (p : Packet) (s : State) :
    s.acceptPacket .two p =
      { s with rxBuffer := { s.rxBuffer with b0 := p.data2, b1 := p.data1 }, rxIndex := 1,
               trace := s.trace ++ [.rd (some p)], transport := s.transport.afterRead,
               out := some ⟨true, some p.data1⟩ } := rfl

/-- R143 and R144 for a 3-byte packet. -/
theorem State.acceptPacket_three (p : Packet) (s : State) :
    s.acceptPacket .three p =
      { s with rxBuffer := ⟨p.data3, p.data2, p.data1⟩, rxIndex := 2,
               trace := s.trace ++ [.rd (some p)], transport := s.transport.afterRead,
               out := some ⟨true, some p.data1⟩ } := rfl

/-- R143 and R145 for an unrecognised packet. -/
theorem State.acceptPacket_unrecognised (p : Packet) (s : State) :
    s.acceptPacket .unrecognised p =
      { s with trace := s.trace ++ [.rd (some p)], transport := s.transport.afterRead,
               out := some ⟨false, none⟩ } := rfl

/-- Everything a READ can do, R140. -/
theorem State.readByte_cases (s : State) :
    (s.rxIndex ≠ 0 ∧ s.readByte = s.deliver) ∨
    (s.rxIndex = 0 ∧ s.transport.readAnswer = none ∧ s.readByte = s.acceptNone) ∨
    (∃ p, s.rxIndex = 0 ∧ s.transport.readAnswer = some p ∧
      s.readByte = s.acceptPacket (rxClass p.cin) p) := by
  unfold State.readByte
  by_cases h : s.rxIndex = 0
  · cases hr : s.transport.readAnswer with
    | none => simp [h]
    | some p => exact Or.inr (Or.inr ⟨p, h, rfl, by simp [h]⟩)
  · simp [h]

/-- The row of a packet, by whether bytes are undelivered (R219). -/
theorem State.receivePacket_cases (c : RxClass) (p : Packet) (s : State) :
    (s.rxIndex ≠ 0 ∧ s.receivePacket c p = s.deliver) ∨
    (s.rxIndex = 0 ∧ s.receivePacket c p = s.acceptPacket c p) := by
  unfold State.receivePacket
  by_cases h : s.rxIndex = 0 <;> simp [h]

/-- The port: no command, a refused word, or a command. -/
theorem State.fetch_cases (s : State) :
    (s.commands = [] ∧ s.fetch = .idle) ∨
    (∃ w rest, s.commands = w :: rest ∧
      ((∃ e, decodeCmd w = .error e ∧ s.fetch = .illegal e) ∨
       (∃ i, decodeCmd w = .ok i ∧ s.fetch = .instr i))) := by
  unfold State.fetch
  cases hc : s.commands with
  | nil => simp
  | cons w rest =>
    refine Or.inr ⟨w, rest, rfl, ?_⟩
    cases hd : decodeCmd w with
    | ok i => exact Or.inr ⟨i, rfl, by simp [hd]⟩
    | error e => exact Or.inl ⟨e, rfl, by simp [hd]⟩

/-- The header a BEGIN leaves carries the instance's cable number and the type's CIN, R73. -/
theorem beginPacket_event (c : Params) (t : MessageType) (k : Packet) :
    (beginPacket c t k).event = header c.cable t.cinOf := by
  unfold beginPacket; split <;> rfl

/-- Storing a payload byte leaves the header. -/
@[simp] theorem setSlot_event (k : Packet) (p : Nat) (b : Byte) : (k.setSlot p b).event = k.event := by
  unfold Packet.setSlot; split <;> rfl

/-- The header after a sysex byte: rewritten with a sysex CIN, or as it was (R121, R122). -/
theorem sysexPacket_event (c : Params) (p : Nat) (b : Byte) (k : Packet) :
    (sysexPacket c p b k).event = k.event ∨
    ∃ cin ∈ [0x4#4, 0x5#4, 0x6#4, 0x7#4], (sysexPacket c p b k).event = header c.cable cin := by
  have hs : stopCin p ∈ [0x4#4, 0x5#4, 0x6#4, 0x7#4] := by unfold stopCin; split <;> decide
  unfold sysexPacket sysexHeader
  rw [setSlot_event]
  split
  · right
    refine ⟨stopCin p, hs, ?_⟩
    split <;> rfl
  · split
    · exact Or.inr ⟨0x4, by decide, rfl⟩
    · exact Or.inl rfl

end Sys2Proof.Machine
end

