-- ==== Sys2Proof/Laws/Exec.lean ====
section
/-! SUPPORT. The effect of every instruction as one function, and what exec and step can answer. -/

namespace Sys2Proof.Machine

/-- The effect of an instruction on the state from which its word has been taken. -/
def effect : Instr → State → State
  | .init => fun s => (if s.params.initClearsState then s.clearCodec else s).hwInit
  | .deinit => State.hwDeInit
  | .beginNoteOff => State.beginMessage .noteOff
  | .beginNoteOn => State.beginMessage .noteOn
  | .beginAfterTouchPoly => State.beginMessage .afterTouchPoly
  | .beginControlChange => State.beginMessage .controlChange
  | .beginProgramChange => State.beginMessage .programChange
  | .beginAfterTouchChannel => State.beginMessage .afterTouchChannel
  | .beginPitchBend => State.beginMessage .pitchBend
  | .beginSysEx => State.beginMessage .sysEx
  | .beginTimeCodeQuarterFrame => State.beginMessage .timeCodeQuarterFrame
  | .beginSongPosition => State.beginMessage .songPosition
  | .beginSongSelect => State.beginMessage .songSelect
  | .beginTuneRequest => State.beginMessage .tuneRequest
  | .beginClock => State.beginMessage .clock
  | .beginStart => State.beginMessage .start
  | .beginContinue => State.beginMessage .continue_
  | .beginStop => State.beginMessage .stop
  | .beginActiveSensing => State.beginMessage .activeSensing
  | .beginSystemReset => State.beginMessage .systemReset
  | .write b => State.writeByte b
  | .endMessage => State.flush
  | .read => State.readByte
  | .cin0 cn d1 d2 d3 => State.receivePacket .unrecognised (mkPacket cn 0x0 d1 d2 d3)
  | .cin1 cn d1 d2 d3 => State.receivePacket .unrecognised (mkPacket cn 0x1 d1 d2 d3)
  | .cin2 cn d1 d2 d3 => State.receivePacket .two (mkPacket cn 0x2 d1 d2 d3)
  | .cin3 cn d1 d2 d3 => State.receivePacket .three (mkPacket cn 0x3 d1 d2 d3)
  | .cin4 cn d1 d2 d3 => State.receivePacket .three (mkPacket cn 0x4 d1 d2 d3)
  | .cin5 cn d1 d2 d3 => State.receivePacket .one (mkPacket cn 0x5 d1 d2 d3)
  | .cin6 cn d1 d2 d3 => State.receivePacket .two (mkPacket cn 0x6 d1 d2 d3)
  | .cin7 cn d1 d2 d3 => State.receivePacket .three (mkPacket cn 0x7 d1 d2 d3)
  | .cin8 cn d1 d2 d3 => State.receivePacket .three (mkPacket cn 0x8 d1 d2 d3)
  | .cin9 cn d1 d2 d3 => State.receivePacket .three (mkPacket cn 0x9 d1 d2 d3)
  | .cinA cn d1 d2 d3 => State.receivePacket .three (mkPacket cn 0xA d1 d2 d3)
  | .cinB cn d1 d2 d3 => State.receivePacket .three (mkPacket cn 0xB d1 d2 d3)
  | .cinC cn d1 d2 d3 => State.receivePacket .two (mkPacket cn 0xC d1 d2 d3)
  | .cinD cn d1 d2 d3 => State.receivePacket .two (mkPacket cn 0xD d1 d2 d3)
  | .cinE cn d1 d2 d3 => State.receivePacket .three (mkPacket cn 0xE d1 d2 d3)
  | .cinF cn d1 d2 d3 => State.receivePacket .one (mkPacket cn 0xF d1 d2 d3)

/-- Every meaning performs its effect. -/
theorem exec_eq_perform (i : Instr) (s : State) : exec i s = s.perform (effect i) := by
  cases i <;> rfl

/-- Everything exec can do. -/
theorem exec_eq_next_iff (i : Instr) (s t : State) :
    exec i s = .next t ↔ s.fault = .none ∧ t = effect i s.takeCommand := by
  rw [exec_eq_perform, State.perform_eq_next_iff]

theorem exec_ok (i : Instr) {s : State} (h : s.fault = .none) : exec i s = .next (effect i s.takeCommand) :=
  (exec_eq_next_iff i s _).2 ⟨h, rfl⟩

theorem exec_faulted (i : Instr) {s : State} (h : s.fault ≠ .none) :
    exec i s = .fault (.quiescent s.fault) := by
  rw [exec_eq_perform, State.perform_faulted _ h]

/-- The effect of the BEGIN of a type. -/
theorem effect_beginInstr (t : MessageType) : effect t.beginInstr = State.beginMessage t := by
  cases t <;> rfl

/-- The effect of a packet's row, by the receive class of its CIN (R76 and R85 agree). -/
theorem effect_decodePacket (p : Packet) : effect (decodePacket p) = State.receivePacket (rxClass p.cin) p := by
  have hmk : ∀ cin : Nibble, p.cin = cin → mkPacket p.cable cin p.data1 p.data2 p.data3 = p := by
    rintro cin rfl
    cases p
    simp [mkPacket, Packet.cable, Packet.cin, header_of_nibbles]
  have hall : ∀ c : Nibble, c ∈ [0x0#4, 0x1#4, 0x2#4, 0x3#4, 0x4#4, 0x5#4, 0x6#4, 0x7#4,
      0x8#4, 0x9#4, 0xA#4, 0xB#4, 0xC#4, 0xD#4, 0xE#4, 0xF#4] := by decide
  have h := hall p.cin
  simp only [List.mem_cons, List.not_mem_nil, or_false] at h
  rcases h with h | h | h | h | h | h | h | h | h | h | h | h | h | h | h | h <;>
    simp [decodePacket, effect, rxClass, h, hmk _ h]

/-- The five kinds of instruction: lifecycle, BEGIN, WRITE, END, and a READ or the packet that answers one. -/
theorem instr_kinds (i : Instr) :
    i = .init ∨ i = .deinit ∨ (∃ t, i = MessageType.beginInstr t) ∨ (∃ b, i = .write b) ∨ i = .endMessage ∨
      i = .read ∨ ∃ p, i = decodePacket p := by
  cases i
  case beginNoteOff => exact Or.inr (Or.inr (Or.inl ⟨.noteOff, rfl⟩))
  case beginNoteOn => exact Or.inr (Or.inr (Or.inl ⟨.noteOn, rfl⟩))
  case beginAfterTouchPoly => exact Or.inr (Or.inr (Or.inl ⟨.afterTouchPoly, rfl⟩))
  case beginControlChange => exact Or.inr (Or.inr (Or.inl ⟨.controlChange, rfl⟩))
  case beginProgramChange => exact Or.inr (Or.inr (Or.inl ⟨.programChange, rfl⟩))
  case beginAfterTouchChannel => exact Or.inr (Or.inr (Or.inl ⟨.afterTouchChannel, rfl⟩))
  case beginPitchBend => exact Or.inr (Or.inr (Or.inl ⟨.pitchBend, rfl⟩))
  case beginSysEx => exact Or.inr (Or.inr (Or.inl ⟨.sysEx, rfl⟩))
  case beginTimeCodeQuarterFrame => exact Or.inr (Or.inr (Or.inl ⟨.timeCodeQuarterFrame, rfl⟩))
  case beginSongPosition => exact Or.inr (Or.inr (Or.inl ⟨.songPosition, rfl⟩))
  case beginSongSelect => exact Or.inr (Or.inr (Or.inl ⟨.songSelect, rfl⟩))
  case beginTuneRequest => exact Or.inr (Or.inr (Or.inl ⟨.tuneRequest, rfl⟩))
  case beginClock => exact Or.inr (Or.inr (Or.inl ⟨.clock, rfl⟩))
  case beginStart => exact Or.inr (Or.inr (Or.inl ⟨.start, rfl⟩))
  case beginContinue => exact Or.inr (Or.inr (Or.inl ⟨.continue_, rfl⟩))
  case beginStop => exact Or.inr (Or.inr (Or.inl ⟨.stop, rfl⟩))
  case beginActiveSensing => exact Or.inr (Or.inr (Or.inl ⟨.activeSensing, rfl⟩))
  case beginSystemReset => exact Or.inr (Or.inr (Or.inl ⟨.systemReset, rfl⟩))
  case init => simp
  case deinit => simp
  case write b => simp
  case endMessage => simp
  case read => simp
  case cin0 cn d1 d2 d3 =>
    have h : decodePacket (mkPacket cn 0x0 d1 d2 d3) = .cin0 cn d1 d2 d3 := by
      simp only [decodePacket, Packet.cin_mk, Packet.cable_mk]; rfl
    exact Or.inr (Or.inr (Or.inr (Or.inr (Or.inr (Or.inr ⟨_, h.symm⟩)))))
  case cin1 cn d1 d2 d3 =>
    have h : decodePacket (mkPacket cn 0x1 d1 d2 d3) = .cin1 cn d1 d2 d3 := by
      simp only [decodePacket, Packet.cin_mk, Packet.cable_mk]; rfl
    exact Or.inr (Or.inr (Or.inr (Or.inr (Or.inr (Or.inr ⟨_, h.symm⟩)))))
  case cin2 cn d1 d2 d3 =>
    have h : decodePacket (mkPacket cn 0x2 d1 d2 d3) = .cin2 cn d1 d2 d3 := by
      simp only [decodePacket, Packet.cin_mk, Packet.cable_mk]; rfl
    exact Or.inr (Or.inr (Or.inr (Or.inr (Or.inr (Or.inr ⟨_, h.symm⟩)))))
  case cin3 cn d1 d2 d3 =>
    have h : decodePacket (mkPacket cn 0x3 d1 d2 d3) = .cin3 cn d1 d2 d3 := by
      simp only [decodePacket, Packet.cin_mk, Packet.cable_mk]; rfl
    exact Or.inr (Or.inr (Or.inr (Or.inr (Or.inr (Or.inr ⟨_, h.symm⟩)))))
  case cin4 cn d1 d2 d3 =>
    have h : decodePacket (mkPacket cn 0x4 d1 d2 d3) = .cin4 cn d1 d2 d3 := by
      simp only [decodePacket, Packet.cin_mk, Packet.cable_mk]; rfl
    exact Or.inr (Or.inr (Or.inr (Or.inr (Or.inr (Or.inr ⟨_, h.symm⟩)))))
  case cin5 cn d1 d2 d3 =>
    have h : decodePacket (mkPacket cn 0x5 d1 d2 d3) = .cin5 cn d1 d2 d3 := by
      simp only [decodePacket, Packet.cin_mk, Packet.cable_mk]; rfl
    exact Or.inr (Or.inr (Or.inr (Or.inr (Or.inr (Or.inr ⟨_, h.symm⟩)))))
  case cin6 cn d1 d2 d3 =>
    have h : decodePacket (mkPacket cn 0x6 d1 d2 d3) = .cin6 cn d1 d2 d3 := by
      simp only [decodePacket, Packet.cin_mk, Packet.cable_mk]; rfl
    exact Or.inr (Or.inr (Or.inr (Or.inr (Or.inr (Or.inr ⟨_, h.symm⟩)))))
  case cin7 cn d1 d2 d3 =>
    have h : decodePacket (mkPacket cn 0x7 d1 d2 d3) = .cin7 cn d1 d2 d3 := by
      simp only [decodePacket, Packet.cin_mk, Packet.cable_mk]; rfl
    exact Or.inr (Or.inr (Or.inr (Or.inr (Or.inr (Or.inr ⟨_, h.symm⟩)))))
  case cin8 cn d1 d2 d3 =>
    have h : decodePacket (mkPacket cn 0x8 d1 d2 d3) = .cin8 cn d1 d2 d3 := by
      simp only [decodePacket, Packet.cin_mk, Packet.cable_mk]; rfl
    exact Or.inr (Or.inr (Or.inr (Or.inr (Or.inr (Or.inr ⟨_, h.symm⟩)))))
  case cin9 cn d1 d2 d3 =>
    have h : decodePacket (mkPacket cn 0x9 d1 d2 d3) = .cin9 cn d1 d2 d3 := by
      simp only [decodePacket, Packet.cin_mk, Packet.cable_mk]; rfl
    exact Or.inr (Or.inr (Or.inr (Or.inr (Or.inr (Or.inr ⟨_, h.symm⟩)))))
  case cinA cn d1 d2 d3 =>
    have h : decodePacket (mkPacket cn 0xA d1 d2 d3) = .cinA cn d1 d2 d3 := by
      simp only [decodePacket, Packet.cin_mk, Packet.cable_mk]; rfl
    exact Or.inr (Or.inr (Or.inr (Or.inr (Or.inr (Or.inr ⟨_, h.symm⟩)))))
  case cinB cn d1 d2 d3 =>
    have h : decodePacket (mkPacket cn 0xB d1 d2 d3) = .cinB cn d1 d2 d3 := by
      simp only [decodePacket, Packet.cin_mk, Packet.cable_mk]; rfl
    exact Or.inr (Or.inr (Or.inr (Or.inr (Or.inr (Or.inr ⟨_, h.symm⟩)))))
  case cinC cn d1 d2 d3 =>
    have h : decodePacket (mkPacket cn 0xC d1 d2 d3) = .cinC cn d1 d2 d3 := by
      simp only [decodePacket, Packet.cin_mk, Packet.cable_mk]; rfl
    exact Or.inr (Or.inr (Or.inr (Or.inr (Or.inr (Or.inr ⟨_, h.symm⟩)))))
  case cinD cn d1 d2 d3 =>
    have h : decodePacket (mkPacket cn 0xD d1 d2 d3) = .cinD cn d1 d2 d3 := by
      simp only [decodePacket, Packet.cin_mk, Packet.cable_mk]; rfl
    exact Or.inr (Or.inr (Or.inr (Or.inr (Or.inr (Or.inr ⟨_, h.symm⟩)))))
  case cinE cn d1 d2 d3 =>
    have h : decodePacket (mkPacket cn 0xE d1 d2 d3) = .cinE cn d1 d2 d3 := by
      simp only [decodePacket, Packet.cin_mk, Packet.cable_mk]; rfl
    exact Or.inr (Or.inr (Or.inr (Or.inr (Or.inr (Or.inr ⟨_, h.symm⟩)))))
  case cinF cn d1 d2 d3 =>
    have h : decodePacket (mkPacket cn 0xF d1 d2 d3) = .cinF cn d1 d2 d3 := by
      simp only [decodePacket, Packet.cin_mk, Packet.cable_mk]; rfl
    exact Or.inr (Or.inr (Or.inr (Or.inr (Or.inr (Or.inr ⟨_, h.symm⟩)))))

/-- Everything an instruction's effect can be. -/
theorem effect_cases (i : Instr) (s : State) :
    (i = .init ∧ effect i s = (if s.params.initClearsState then s.clearCodec else s).hwInit) ∨
    (i = .deinit ∧ effect i s = s.hwDeInit) ∨
    (∃ t, i = MessageType.beginInstr t ∧ effect i s = s.beginMessage t) ∨
    (∃ b, i = .write b ∧
      ((∃ code, s.writeFault = some code ∧ effect i s = s.raiseFault code) ∨
       (s.writeFault = none ∧ s.activeType = some .sysEx ∧ s.txIndex % 3 = 2 ∧ b ≠ sysexStopByte ∧
          effect i s = { State.hwWrite { s with txBuffer := sysexPacket s.params (s.txIndex % 3) b s.txBuffer } with
            txIndex := s.txIndex + 1 }) ∨
       (s.writeFault = none ∧ s.activeType = some .sysEx ∧ (s.txIndex % 3 ≠ 2 ∨ b = sysexStopByte) ∧
          effect i s =
            { State.returns { s with txBuffer := sysexPacket s.params (s.txIndex % 3) b s.txBuffer } true none with
              txIndex := s.txIndex + 1 }) ∨
       (s.writeFault = none ∧ s.activeType ≠ some .sysEx ∧
          effect i s = { s.nonSysexStore b with txIndex := s.txIndex + 1 }))) ∨
    (i = .endMessage ∧
      ((s.activeType = none ∧ effect i s = s.raiseFault .noTransmission) ∨
       (s.activeType ≠ none ∧ effect i s = s.hwWrite))) ∨
    ((i = .read ∨ ∃ p, i = decodePacket p) ∧
      ((s.rxIndex ≠ 0 ∧ effect i s = s.deliver) ∨
       (s.rxIndex = 0 ∧ effect i s = s.acceptNone) ∨
       (∃ p, s.rxIndex = 0 ∧ effect i s = s.acceptPacket (rxClass p.cin) p))) := by
  rcases instr_kinds i with rfl | rfl | ⟨t, rfl⟩ | ⟨b, rfl⟩ | rfl | rfl | ⟨p, rfl⟩
  · exact Or.inl ⟨rfl, rfl⟩
  · exact Or.inr (Or.inl ⟨rfl, rfl⟩)
  · exact Or.inr (Or.inr (Or.inl ⟨t, rfl, by rw [effect_beginInstr]⟩))
  · refine Or.inr (Or.inr (Or.inr (Or.inl ⟨b, rfl, ?_⟩)))
    show (∃ code, _ ∧ s.writeByte b = _) ∨ _
    rcases s.writeByte_cases b with h | ⟨hF, hA, h⟩ | h
    · exact Or.inl h
    · rcases s.sysexStore_cases b with ⟨hp, hb, hs⟩ | ⟨hp, hs⟩
      · exact Or.inr (Or.inl ⟨hF, hA, hp, hb, by rw [hs] at h; exact h⟩)
      · exact Or.inr (Or.inr (Or.inl ⟨hF, hA, hp, by rw [hs] at h; exact h⟩))
    · exact Or.inr (Or.inr (Or.inr h))
  · exact Or.inr (Or.inr (Or.inr (Or.inr (Or.inl ⟨rfl, s.flush_cases⟩))))
  · refine Or.inr (Or.inr (Or.inr (Or.inr (Or.inr ⟨Or.inl rfl, ?_⟩))))
    rcases s.readByte_cases with h | ⟨h0, _, h⟩ | ⟨p, h0, _, h⟩
    · exact Or.inl h
    · exact Or.inr (Or.inl ⟨h0, h⟩)
    · exact Or.inr (Or.inr ⟨p, h0, h⟩)
  · refine Or.inr (Or.inr (Or.inr (Or.inr (Or.inr ⟨Or.inr ⟨p, rfl⟩, ?_⟩))))
    rw [effect_decodePacket]
    rcases s.receivePacket_cases (rxClass p.cin) p with h | ⟨h0, h⟩
    · exact Or.inl h
    · exact Or.inr (Or.inr ⟨p, h0, h⟩)

/-- Everything a step can do. -/
theorem step_eq_next_cases {s t : State} (h : step s = .next t) :
    s.fault = .none ∧
    ((s.commands = [] ∧ t = s) ∨
     (∃ w rest e, s.commands = w :: rest ∧ decodeCmd w = .error e ∧ t = s.refuseWord) ∨
     (∃ w rest i, s.commands = w :: rest ∧ decodeCmd w = .ok i ∧ t = effect i s.takeCommand)) := by
  unfold step State.stepWith at h
  split at h
  · rename_i hf
    refine ⟨hf, ?_⟩
    rcases s.fetch_cases with ⟨hc, he⟩ | ⟨w, rest, hc, ⟨e, hd, he⟩ | ⟨i, hd, he⟩⟩ <;> rw [he] at h
    · exact Or.inl ⟨hc, by simpa using h.symm⟩
    · exact Or.inr (Or.inl ⟨w, rest, e, hc, hd, by simpa using h.symm⟩)
    · exact Or.inr (Or.inr ⟨w, rest, i, hc, hd, ((exec_eq_next_iff i s t).1 h).2⟩)
  · simp at h

theorem step_command {s : State} {w : CmdWord} {rest : List CmdWord} {i : Instr} (hf : s.fault = .none)
    (hc : s.commands = w :: rest) (hd : decodeCmd w = .ok i) : step s = exec i s := by
  simp [step, State.stepWith, State.fetch, hf, hc, hd]

theorem step_refused {s : State} {w : CmdWord} {rest : List CmdWord} {e : DecodeError} (hf : s.fault = .none)
    (hc : s.commands = w :: rest) (hd : decodeCmd w = .error e) : step s = .next s.refuseWord := by
  simp [step, State.stepWith, State.fetch, hf, hc, hd]

theorem step_faulted {s : State} (h : s.fault ≠ .none) : step s = .fault (.quiescent s.fault) := by
  simp [step, State.stepWith, h]

end Sys2Proof.Machine
end

