-- ==== Sys2Proof/Laws/PerInstr.lean ====
section
/-! SUPPORT. Per instruction: its encoding lies in its row of spec/opcode_table.json. -/

namespace Sys2Proof.Laws.TableRow

/-- The width, match and mask of an instruction's row in spec/opcode_table.json. -/
def row : Instr → Nat × Nat × Nat
  | .init => (16, 0x0100, 0xFFFF)
  | .deinit => (16, 0x0200, 0xFFFF)
  | .beginNoteOff => (16, 0x0380, 0xFFFF)
  | .beginNoteOn => (16, 0x0390, 0xFFFF)
  | .beginAfterTouchPoly => (16, 0x03A0, 0xFFFF)
  | .beginControlChange => (16, 0x03B0, 0xFFFF)
  | .beginProgramChange => (16, 0x03C0, 0xFFFF)
  | .beginAfterTouchChannel => (16, 0x03D0, 0xFFFF)
  | .beginPitchBend => (16, 0x03E0, 0xFFFF)
  | .beginSysEx => (16, 0x03F0, 0xFFFF)
  | .beginTimeCodeQuarterFrame => (16, 0x03F1, 0xFFFF)
  | .beginSongPosition => (16, 0x03F2, 0xFFFF)
  | .beginSongSelect => (16, 0x03F3, 0xFFFF)
  | .beginTuneRequest => (16, 0x03F6, 0xFFFF)
  | .beginClock => (16, 0x03F8, 0xFFFF)
  | .beginStart => (16, 0x03FA, 0xFFFF)
  | .beginContinue => (16, 0x03FB, 0xFFFF)
  | .beginStop => (16, 0x03FC, 0xFFFF)
  | .beginActiveSensing => (16, 0x03FE, 0xFFFF)
  | .beginSystemReset => (16, 0x03FF, 0xFFFF)
  | .write _ => (16, 0x0400, 0xFF00)
  | .endMessage => (16, 0x0500, 0xFFFF)
  | .read => (16, 0x0600, 0xFFFF)
  | .cin0 _ _ _ _ => (32, 0x00000000, 0x0F000000)
  | .cin1 _ _ _ _ => (32, 0x01000000, 0x0F000000)
  | .cin2 _ _ _ _ => (32, 0x02000000, 0x0F000000)
  | .cin3 _ _ _ _ => (32, 0x03000000, 0x0F000000)
  | .cin4 _ _ _ _ => (32, 0x04000000, 0x0F000000)
  | .cin5 _ _ _ _ => (32, 0x05000000, 0x0F000000)
  | .cin6 _ _ _ _ => (32, 0x06000000, 0x0F000000)
  | .cin7 _ _ _ _ => (32, 0x07000000, 0x0F000000)
  | .cin8 _ _ _ _ => (32, 0x08000000, 0x0F000000)
  | .cin9 _ _ _ _ => (32, 0x09000000, 0x0F000000)
  | .cinA _ _ _ _ => (32, 0x0A000000, 0x0F000000)
  | .cinB _ _ _ _ => (32, 0x0B000000, 0x0F000000)
  | .cinC _ _ _ _ => (32, 0x0C000000, 0x0F000000)
  | .cinD _ _ _ _ => (32, 0x0D000000, 0x0F000000)
  | .cinE _ _ _ _ => (32, 0x0E000000, 0x0F000000)
  | .cinF _ _ _ _ => (32, 0x0F000000, 0x0F000000)

/-- The width and the bits of an encoding, numbered as the table numbers them. -/
def bits : Encoded → Nat × Nat
  | .cmd w => (16, w.toNat)
  | .pkt w => (32, w.toNat)

/-- The encoding of an instruction has its row's width and, under the row's mask, its row's match. -/
def Statement (i : Instr) : Prop :=
  (bits (encode i)).1 = (row i).1 ∧ (bits (encode i)).2 &&& (row i).2.2 = (row i).2.1

/-- The packet rows' mask selects bits [27:24]. -/
theorem mask_selects (w : PktWord) : w &&& 0x0F000000#32 = (w.extractLsb' 24 4).setWidth 32 <<< 24 := by
  ext i hi
  interval_cases i <;> simp [BitVec.getElem_shiftLeft, BitVec.getLsbD_eq_getElem]

/-- Bits [27:24] of a packet word are its CIN, R71. -/
theorem cin_field (cn cin : Nibble) (d1 d2 d3 : Byte) :
    (mkPacket cn cin d1 d2 d3).toWord.extractLsb' 24 4 = cin := by
  apply BitVec.eq_of_toNat_eq
  have h := (mkPacket cn cin d1 d2 d3).toWord_toNat
  have he : (mkPacket cn cin d1 d2 d3).event.toNat = cn.toNat * 16 + cin.toNat := append_toNat cn cin
  have h1 := (mkPacket cn cin d1 d2 d3).data1.isLt
  have h2 := (mkPacket cn cin d1 d2 d3).data2.isLt
  have h3 := (mkPacket cn cin d1 d2 d3).data3.isLt
  have hc := cin.isLt
  simp only [BitVec.extractLsb'_toNat, Nat.shiftRight_eq_div_pow, h]
  omega

theorem masked_bits (cn cin : Nibble) (d1 d2 d3 : Byte) :
    (mkPacket cn cin d1 d2 d3).toWord.toNat &&& 0x0F000000 = (cin.setWidth 32 <<< 24).toNat := by
  have h := congrArg BitVec.toNat (mask_selects (mkPacket cn cin d1 d2 d3).toWord)
  rw [cin_field] at h
  exact h

theorem init : Statement .init := by unfold Statement; decide
theorem deinit : Statement .deinit := by unfold Statement; decide
theorem beginNoteOff : Statement .beginNoteOff := by unfold Statement; decide
theorem beginNoteOn : Statement .beginNoteOn := by unfold Statement; decide
theorem beginAfterTouchPoly : Statement .beginAfterTouchPoly := by unfold Statement; decide
theorem beginControlChange : Statement .beginControlChange := by unfold Statement; decide
theorem beginProgramChange : Statement .beginProgramChange := by unfold Statement; decide
theorem beginAfterTouchChannel : Statement .beginAfterTouchChannel := by unfold Statement; decide
theorem beginPitchBend : Statement .beginPitchBend := by unfold Statement; decide
theorem beginSysEx : Statement .beginSysEx := by unfold Statement; decide
theorem beginTimeCodeQuarterFrame : Statement .beginTimeCodeQuarterFrame := by unfold Statement; decide
theorem beginSongPosition : Statement .beginSongPosition := by unfold Statement; decide
theorem beginSongSelect : Statement .beginSongSelect := by unfold Statement; decide
theorem beginTuneRequest : Statement .beginTuneRequest := by unfold Statement; decide
theorem beginClock : Statement .beginClock := by unfold Statement; decide
theorem beginStart : Statement .beginStart := by unfold Statement; decide
theorem beginContinue : Statement .beginContinue := by unfold Statement; decide
theorem beginStop : Statement .beginStop := by unfold Statement; decide
theorem beginActiveSensing : Statement .beginActiveSensing := by unfold Statement; decide
theorem beginSystemReset : Statement .beginSystemReset := by unfold Statement; decide
theorem write (b : Byte) : Statement (.write b) := by
  revert b; unfold Statement; decide
theorem endMessage : Statement .endMessage := by unfold Statement; decide
theorem read : Statement .read := by unfold Statement; decide
theorem cin0 (cn : Nibble) (d1 d2 d3 : Byte) : Statement (.cin0 cn d1 d2 d3) :=
  ⟨rfl, masked_bits cn 0x0 d1 d2 d3⟩
theorem cin1 (cn : Nibble) (d1 d2 d3 : Byte) : Statement (.cin1 cn d1 d2 d3) :=
  ⟨rfl, masked_bits cn 0x1 d1 d2 d3⟩
theorem cin2 (cn : Nibble) (d1 d2 d3 : Byte) : Statement (.cin2 cn d1 d2 d3) :=
  ⟨rfl, masked_bits cn 0x2 d1 d2 d3⟩
theorem cin3 (cn : Nibble) (d1 d2 d3 : Byte) : Statement (.cin3 cn d1 d2 d3) :=
  ⟨rfl, masked_bits cn 0x3 d1 d2 d3⟩
theorem cin4 (cn : Nibble) (d1 d2 d3 : Byte) : Statement (.cin4 cn d1 d2 d3) :=
  ⟨rfl, masked_bits cn 0x4 d1 d2 d3⟩
theorem cin5 (cn : Nibble) (d1 d2 d3 : Byte) : Statement (.cin5 cn d1 d2 d3) :=
  ⟨rfl, masked_bits cn 0x5 d1 d2 d3⟩
theorem cin6 (cn : Nibble) (d1 d2 d3 : Byte) : Statement (.cin6 cn d1 d2 d3) :=
  ⟨rfl, masked_bits cn 0x6 d1 d2 d3⟩
theorem cin7 (cn : Nibble) (d1 d2 d3 : Byte) : Statement (.cin7 cn d1 d2 d3) :=
  ⟨rfl, masked_bits cn 0x7 d1 d2 d3⟩
theorem cin8 (cn : Nibble) (d1 d2 d3 : Byte) : Statement (.cin8 cn d1 d2 d3) :=
  ⟨rfl, masked_bits cn 0x8 d1 d2 d3⟩
theorem cin9 (cn : Nibble) (d1 d2 d3 : Byte) : Statement (.cin9 cn d1 d2 d3) :=
  ⟨rfl, masked_bits cn 0x9 d1 d2 d3⟩
theorem cinA (cn : Nibble) (d1 d2 d3 : Byte) : Statement (.cinA cn d1 d2 d3) :=
  ⟨rfl, masked_bits cn 0xA d1 d2 d3⟩
theorem cinB (cn : Nibble) (d1 d2 d3 : Byte) : Statement (.cinB cn d1 d2 d3) :=
  ⟨rfl, masked_bits cn 0xB d1 d2 d3⟩
theorem cinC (cn : Nibble) (d1 d2 d3 : Byte) : Statement (.cinC cn d1 d2 d3) :=
  ⟨rfl, masked_bits cn 0xC d1 d2 d3⟩
theorem cinD (cn : Nibble) (d1 d2 d3 : Byte) : Statement (.cinD cn d1 d2 d3) :=
  ⟨rfl, masked_bits cn 0xD d1 d2 d3⟩
theorem cinE (cn : Nibble) (d1 d2 d3 : Byte) : Statement (.cinE cn d1 d2 d3) :=
  ⟨rfl, masked_bits cn 0xE d1 d2 d3⟩
theorem cinF (cn : Nibble) (d1 d2 d3 : Byte) : Statement (.cinF cn d1 d2 d3) :=
  ⟨rfl, masked_bits cn 0xF d1 d2 d3⟩

end Sys2Proof.Laws.TableRow
end

