-- ==== Sys2Proof/Tests/Slice0.lean ====
section
/-! SUPPORT. Tests, whose expected results are the vectors of spec/95_test_vectors.md (their ids stand in the
comments), the checks that refuse ill-formed terms, and a witness for the hypotheses of every statement. -/

namespace Sys2Proof.Tests

open Sys2Proof.Machine Sys2Proof.Statements

/-! ### Small states -/

/-- The parameters the vectors assume: cable 0, both clearing defaults, INIT clears nothing, a limit of at least 64. -/
def params : Params := ⟨0x0, 64, true, true, false⟩

/-- Reset, with a transport that answers every hook and one write with true. -/
def base : State := { State.resetWith params with transport := ⟨[true], [true], [true], [], 0⟩ }

/-- A message in progress. -/
def sending (t : MessageType) (n : Nat) (k : Packet) : State :=
  { base with activeType := some t, txIndex := n, txBuffer := k }

/-- Nothing received, `rxBuffer` [AA AA AA], and one answer waiting. -/
def offered (r : Option Packet) : State :=
  { base with rxBuffer := ⟨0xAA, 0xAA, 0xAA⟩, transport := ⟨[], [], [], [r], 0⟩ }

/-- A codec with a word at its port. -/
def given (w : CmdWord) (s : State) : State := { s with commands := [w] }

/-- The next state; none where the step stops. -/
def next? : Host.Outcome State Fault Refusal → Option State
  | .next s => some s
  | .fault _ => none
  | .refused _ => none

/-- What a transmit command shows: packet, `txIndex`, trace, `result`, `fault`. -/
def sent (o : Host.Outcome State Fault Refusal) : Option (Packet × Nat × List Event × Option Output × FaultCode) :=
  (next? o).map fun s => (s.txBuffer, s.txIndex, s.trace, s.out, s.fault)

/-- What a receive command shows: `rxBuffer`, `rxIndex`, outputs, length of the trace. -/
def received (o : Host.Outcome State Fault Refusal) : Option (RxBuffer × Nat × Option Output × Nat) :=
  (next? o).map fun s => (s.rxBuffer, s.rxIndex.val, s.out, s.trace.length)

/-- The result true, without a byte. -/
def ok : Option Output := some ⟨true, none⟩

/-! ### Decoding: words written out from R71, R75, R80, R83 -/

/-- R80: `OP` in bits [11:8]; X2, X10. -/
theorem test_decode_commands :
    (decodeCmd 0b0000_0001_00000000 = .ok .init ∧ decodeCmd 0b0000_0010_00000000 = .ok .deinit ∧
     decodeCmd 0b0000_0100_11110111 = .ok (.write 0xF7) ∧ decodeCmd 0b0000_0101_00000000 = .ok .endMessage ∧
     decodeCmd 0b0000_0110_00000000 = .ok .read) := by decide

/-- R75 and R80: the eighteen BEGIN words; X1. -/
theorem test_decode_begin :
    (decodeCmd 0x0380 = .ok .beginNoteOff ∧ decodeCmd 0x0390 = .ok .beginNoteOn ∧
     decodeCmd 0x03A0 = .ok .beginAfterTouchPoly ∧ decodeCmd 0x03B0 = .ok .beginControlChange ∧
     decodeCmd 0x03C0 = .ok .beginProgramChange ∧ decodeCmd 0x03D0 = .ok .beginAfterTouchChannel ∧
     decodeCmd 0x03E0 = .ok .beginPitchBend ∧ decodeCmd 0x03F0 = .ok .beginSysEx ∧
     decodeCmd 0x03F1 = .ok .beginTimeCodeQuarterFrame ∧ decodeCmd 0x03F2 = .ok .beginSongPosition ∧
     decodeCmd 0x03F3 = .ok .beginSongSelect ∧ decodeCmd 0x03F6 = .ok .beginTuneRequest ∧
     decodeCmd 0x03F8 = .ok .beginClock ∧ decodeCmd 0x03FA = .ok .beginStart ∧
     decodeCmd 0x03FB = .ok .beginContinue ∧ decodeCmd 0x03FC = .ok .beginStop ∧
     decodeCmd 0x03FE = .ok .beginActiveSensing ∧ decodeCmd 0x03FF = .ok .beginSystemReset) := by decide

/-- R71 and R76: `CN` bits [31:28], `CIN` bits [27:24], then data1, data2, data3. -/
theorem test_decode_packets :
    (decodeTableWord 32 0x10AABBCC = some (.cin0 0x1 0xAA 0xBB 0xCC) ∧
     decodeTableWord 32 0x21AABBCC = some (.cin1 0x2 0xAA 0xBB 0xCC) ∧
     decodeTableWord 32 0x32AABBCC = some (.cin2 0x3 0xAA 0xBB 0xCC) ∧
     decodeTableWord 32 0x43AABBCC = some (.cin3 0x4 0xAA 0xBB 0xCC) ∧
     decodeTableWord 32 0x54AABBCC = some (.cin4 0x5 0xAA 0xBB 0xCC) ∧
     decodeTableWord 32 0x65AABBCC = some (.cin5 0x6 0xAA 0xBB 0xCC) ∧
     decodeTableWord 32 0x76AABBCC = some (.cin6 0x7 0xAA 0xBB 0xCC) ∧
     decodeTableWord 32 0x87AABBCC = some (.cin7 0x8 0xAA 0xBB 0xCC) ∧
     decodeTableWord 32 0x98AABBCC = some (.cin8 0x9 0xAA 0xBB 0xCC) ∧
     decodeTableWord 32 0xA9AABBCC = some (.cin9 0xA 0xAA 0xBB 0xCC) ∧
     decodeTableWord 32 0xBAAABBCC = some (.cinA 0xB 0xAA 0xBB 0xCC) ∧
     decodeTableWord 32 0xCBAABBCC = some (.cinB 0xC 0xAA 0xBB 0xCC) ∧
     decodeTableWord 32 0xDCAABBCC = some (.cinC 0xD 0xAA 0xBB 0xCC) ∧
     decodeTableWord 32 0xEDAABBCC = some (.cinD 0xE 0xAA 0xBB 0xCC) ∧
     decodeTableWord 32 0xFEAABBCC = some (.cinE 0xF 0xAA 0xBB 0xCC) ∧
     decodeTableWord 32 0x0FAABBCC = some (.cinF 0x0 0xAA 0xBB 0xCC)) := by decide

/-- X3 to X9: words without meaning, each refused by the test of R83 that comes first. -/
theorem test_decode_refuses :
    (decodeCmd 0x0000 = .error .undefinedOp ∧ decodeCmd 0x1100 = .error .reservedBits ∧
     decodeCmd 0x0391 = .error .unknownMessageType ∧ decodeCmd 0x03F7 = .error .unknownMessageType ∧
     decodeCmd 0x03F4 = .error .unknownMessageType ∧ decodeCmd 0x0501 = .error .nonzeroArg ∧
     decodeCmd 0x0700 = .error .undefinedOp ∧ decodeCmd 0xFFFF = .error .reservedBits ∧
     decodeTableWord 24 0x0600 = none) := by decide

/-- R80: the encoder on one instruction of each format. -/
theorem test_encode :
    (encode (.write 0xF7) = .cmd 0x04F7 ∧ encode .beginSystemReset = .cmd 0x03FF ∧
     encode (.cin9 0x5 0x90 0x3C 0x7F) = .pkt 0x59903C7F) := by decide

/-- R86: the lines of the syntax. -/
theorem test_lines :
    (Instr.line .beginNoteOn = some "BEGIN NOTE_ON" ∧ Instr.line (.write 0xF7) = some "WRITE 0xF7" ∧
     Instr.line .endMessage = some "END" ∧ Instr.line (.cin9 0x0 0x90 0x3C 0x7F) = none) := by decide

/-- R86: the expansions of the pseudo-instructions. -/
theorem test_expansions :
    ((Pseudo.send .programChange [0xC3, 0x05]).expand =
        [.beginProgramChange, .write 0xC3, .write 0x05, .endMessage] ∧
     (Pseudo.sysex [0x01, 0x02]).expand =
        [.beginSysEx, .write 0xF0, .write 0x01, .write 0x02, .write 0xF7, .endMessage] ∧
     (Pseudo.recv 2).expand = [.read, .read]) := by decide

/-! ### WellFormed refuses ill-formed terms -/

/-- R7: a limit of 2 is refused, 3 is the least. -/
theorem test_params_wf : Params.wf ⟨0x0, 2, true, true, false⟩ = false ∧ Params.wf ⟨0x0, 3, true, true, false⟩ = true := by
  decide

/-- R86: SEND of a wrong number of bytes, and of SYS_EX, which has no fixed length. -/
theorem test_send_wf :
    (Pseudo.wf (.send .noteOn [0x90, 0x3C]) = false ∧ Pseudo.wf (.send .clock []) = false ∧
     Pseudo.wf (.send .sysEx [0xF0, 0xF7]) = false ∧ Pseudo.wf (.send .noteOn [0x90, 0x3C, 0x7F]) = true) := by decide

/-- R212: a sysex body that holds the stop marker. -/
theorem test_sysex_wf : Pseudo.wf (.sysex [0x01, 0xF7]) = false ∧ Pseudo.wf (.sysex []) = true := by decide

/-- R212: streams outside the grammar. -/
theorem test_stream_wf :
    (wellFormedStream params [.write 0x90] = false ∧
     wellFormedStream params [.beginClock, .write 0xF8] = false ∧
     wellFormedStream params [.beginClock, .endMessage] = false ∧
     wellFormedStream params [.beginClock, .write 0xF8, .write 0xF8, .endMessage] = false ∧
     wellFormedStream params [.beginSysEx, .write 0x11, .write 0xF7, .endMessage] = false ∧
     wellFormedStream params [.beginSysEx, .write 0xF0, .endMessage] = false ∧
     wellFormedStream params [.beginSysEx, .write 0xF0, .write 0xF7, .write 0x11, .endMessage] = false ∧
     wellFormedStream params [.cin9 0x0 0x90 0x3C 0x7F] = false) := by decide

/-- R212: the limit, and INIT inside a message where it clears the state (log 15). -/
theorem test_stream_wf_params :
    (wellFormedStream { params with txIndexLimit := 3 }
        [.beginSysEx, .write 0xF0, .write 0x11, .write 0x22, .write 0xF7, .endMessage] = false ∧
     wellFormedStream { params with txIndexLimit := 3 }
        [.beginSysEx, .write 0xF0, .write 0x11, .write 0xF7, .endMessage] = true ∧
     wellFormedStream { params with initClearsState := true } [.beginClock, .init, .write 0xF8, .endMessage] = false ∧
     wellFormedStream params [.beginClock, .init, .write 0xF8, .read, .endMessage, .deinit] = true) := by decide

/-! ### One step of each family -/

/-- B1, B3 to B8, and the other rows of R75: the packet each BEGIN leaves, with data cleared. -/
theorem test_begin_packets :
    ∀ r ∈ [(Instr.beginNoteOff, 0x08#8), (.beginNoteOn, 0x09#8), (.beginAfterTouchPoly, 0x0A#8),
        (.beginControlChange, 0x0B#8), (.beginProgramChange, 0x0C#8), (.beginAfterTouchChannel, 0x0D#8),
        (.beginPitchBend, 0x0E#8), (.beginSysEx, 0x04#8), (.beginTimeCodeQuarterFrame, 0x02#8),
        (.beginSongPosition, 0x03#8), (.beginSongSelect, 0x02#8), (.beginTuneRequest, 0x05#8), (.beginClock, 0x0F#8),
        (.beginStart, 0x0F#8), (.beginContinue, 0x0F#8), (.beginStop, 0x0F#8), (.beginActiveSensing, 0x0F#8),
        (.beginSystemReset, 0x0F#8)],
      sent (exec r.1 (sending .noteOn 3 ⟨0x09, 0x90, 0x3C, 0x7F⟩)) = some (⟨r.2, 0, 0, 0⟩, 0, [], ok, .none) := by
  decide

/-- B2 and B10: the cable number, and BEGIN without clearing. -/
theorem test_begin_params :
    (sent (exec .beginNoteOn { base with params := { params with cable := 0x5 } }) =
        some (⟨0x59, 0, 0, 0⟩, 0, [], ok, .none) ∧
     sent (exec .beginPitchBend
          { sending .noteOn 3 ⟨0x09, 0x90, 0x3C, 0x7F⟩ with params := { params with beginClearsData := false } }) =
        some (⟨0x0E, 0x90, 0x3C, 0x7F⟩, 0, [], ok, .none)) := by and_intros <;> decide

/-- W1 to W4, W8, W12: the non-sysex WRITE. -/
theorem test_write_fixed :
    (sent (exec (.write 0x90) (sending .noteOn 0 ⟨0x09, 0, 0, 0⟩)) = some (⟨0x09, 0x90, 0, 0⟩, 1, [], ok, .none) ∧
     sent (exec (.write 0x3C) (sending .noteOn 1 ⟨0x09, 0x90, 0, 0⟩)) =
        some (⟨0x09, 0x90, 0x3C, 0⟩, 2, [], ok, .none) ∧
     sent (exec (.write 0x7F) (sending .noteOn 2 ⟨0x09, 0x90, 0x3C, 0⟩)) =
        some (⟨0x09, 0x90, 0x3C, 0x7F⟩, 3, [], ok, .none) ∧
     sent (exec (.write 0x01) (sending .noteOn 3 ⟨0x09, 0x90, 0x3C, 0x7F⟩)) =
        some (⟨0x09, 0x90, 0x3C, 0x7F⟩, 3, [], none, .txOverrun) ∧
     sent (exec (.write 0x90) base) = some (⟨0, 0, 0, 0⟩, 0, [], none, .noTransmission) ∧
     sent (exec (.write 0xF7) (sending .clock 1 ⟨0x0F, 0xF8, 0, 0⟩)) =
        some (⟨0x0F, 0xF8, 0xF7, 0⟩, 2, [], ok, .none)) := by and_intros <;> decide

/-- S7 to S18: the sysex WRITE; S13 with a transport that answers false. -/
theorem test_write_sysex :
    (sent (exec (.write 0x33) (sending .sysEx 3 ⟨4, 0xF0, 0x11, 0x22⟩)) = some (⟨4, 0x33, 0, 0⟩, 4, [], ok, .none) ∧
     sent (exec (.write 0xF7) (sending .sysEx 3 ⟨4, 0xF0, 0x11, 0x22⟩)) = some (⟨5, 0xF7, 0, 0⟩, 4, [], ok, .none) ∧
     sent (exec (.write 0xF7) { sending .sysEx 3 ⟨4, 0xF0, 0x11, 0x22⟩ with
          params := { params with stopGroupZeroFill := false } }) =
        some (⟨5, 0xF7, 0x11, 0x22⟩, 4, [], ok, .none) ∧
     sent (exec (.write 0xF7) (sending .sysEx 4 ⟨4, 0x33, 0, 0⟩)) = some (⟨6, 0x33, 0xF7, 0⟩, 5, [], ok, .none) ∧
     sent (exec (.write 0xF7) (sending .sysEx 5 ⟨4, 0x33, 0x44, 0⟩)) =
        some (⟨7, 0x33, 0x44, 0xF7⟩, 6, [], ok, .none) ∧
     sent (exec (.write 0x55) (sending .sysEx 5 ⟨4, 0x33, 0x44, 0⟩)) =
        some (⟨4, 0x33, 0x44, 0x55⟩, 6, [.wr ⟨4, 0x33, 0x44, 0x55⟩ true], ok, .none) ∧
     sent (exec (.write 0x55) { sending .sysEx 5 ⟨4, 0x33, 0x44, 0⟩ with transport := ⟨[], [], [false], [], 0⟩ }) =
        some (⟨4, 0x33, 0x44, 0x55⟩, 6, [.wr ⟨4, 0x33, 0x44, 0x55⟩ false], some ⟨false, none⟩, .none) ∧
     sent (exec (.write 0xF0) (sending .sysEx 1 ⟨4, 0xF0, 0, 0⟩)) = some (⟨4, 0xF0, 0xF0, 0⟩, 2, [], ok, .none) ∧
     sent (exec (.write 0x11) (sending .sysEx 2 ⟨6, 0xF0, 0xF7, 0⟩)) =
        some (⟨6, 0xF0, 0xF7, 0x11⟩, 3, [.wr ⟨6, 0xF0, 0xF7, 0x11⟩ true], ok, .none) ∧
     sent (exec (.write 0x11) { sending .sysEx 4 ⟨4, 0x33, 0, 0⟩ with params := { params with txIndexLimit := 4 } }) =
        some (⟨4, 0x33, 0, 0⟩, 4, [], none, .txIndexOverflow)) := by and_intros <;> decide

/-- W5, W7, W9, W13, S19: END. -/
theorem test_end :
    (sent (exec .endMessage (sending .noteOn 3 ⟨0x09, 0x90, 0x3C, 0x7F⟩)) =
        some (⟨0x09, 0x90, 0x3C, 0x7F⟩, 3, [.wr ⟨0x09, 0x90, 0x3C, 0x7F⟩ true], ok, .none) ∧
     sent (exec .endMessage { sending .noteOn 3 ⟨0x09, 0x90, 0x3C, 0x7F⟩ with
          transport := ⟨[], [], [false], [], 0⟩ }) =
        some (⟨0x09, 0x90, 0x3C, 0x7F⟩, 3, [.wr ⟨0x09, 0x90, 0x3C, 0x7F⟩ false], some ⟨false, none⟩, .none) ∧
     sent (exec .endMessage base) = some (⟨0, 0, 0, 0⟩, 0, [], none, .noTransmission) ∧
     sent (exec .endMessage (sending .noteOn 0 ⟨0x09, 0, 0, 0⟩)) =
        some (⟨0x09, 0, 0, 0⟩, 0, [.wr ⟨0x09, 0, 0, 0⟩ true], ok, .none) ∧
     sent (exec .endMessage (sending .sysEx 3 ⟨4, 0xF0, 0x11, 0x22⟩)) =
        some (⟨4, 0xF0, 0x11, 0x22⟩, 3, [.wr ⟨4, 0xF0, 0x11, 0x22⟩ true], ok, .none)) := by and_intros <;> decide

/-- RD1 to RD12c: packet, `rxBuffer` after the fetch, `rxIndex` after the first READ; that READ gives data1. -/
theorem test_read_packets :
    ∀ r ∈ [((⟨0x0F, 0xF8, 0, 0⟩, ⟨0xF8, 0xAA, 0xAA⟩, 0) : Packet × RxBuffer × Nat),
        (⟨0x05, 0xF6, 0, 0⟩, ⟨0xF6, 0xAA, 0xAA⟩, 0), (⟨0x02, 0xF1, 0x23, 0⟩, ⟨0x23, 0xF1, 0xAA⟩, 1),
        (⟨0x0C, 0xC3, 0x05, 0x7F⟩, ⟨0x05, 0xC3, 0xAA⟩, 1), (⟨0x0D, 0xD0, 0x40, 0⟩, ⟨0x40, 0xD0, 0xAA⟩, 1),
        (⟨0x06, 0x33, 0xF7, 0⟩, ⟨0xF7, 0x33, 0xAA⟩, 1), (⟨0x03, 0xF2, 0x10, 0x20⟩, ⟨0x20, 0x10, 0xF2⟩, 2),
        (⟨0x04, 0xF0, 0x11, 0x22⟩, ⟨0x22, 0x11, 0xF0⟩, 2), (⟨0x07, 0x33, 0x44, 0xF7⟩, ⟨0xF7, 0x44, 0x33⟩, 2),
        (⟨0x08, 0x80, 0x3C, 0x00⟩, ⟨0x00, 0x3C, 0x80⟩, 2), (⟨0x59, 0x90, 0x3C, 0x7F⟩, ⟨0x7F, 0x3C, 0x90⟩, 2),
        (⟨0x0A, 0xA0, 0x3C, 0x10⟩, ⟨0x10, 0x3C, 0xA0⟩, 2), (⟨0x0B, 0xB0, 0x07, 0x64⟩, ⟨0x64, 0x07, 0xB0⟩, 2),
        (⟨0x0E, 0xE0, 0x00, 0x40⟩, ⟨0x40, 0x00, 0xE0⟩, 2)],
      received (exec .read (offered (some r.1))) = some (r.2.1, r.2.2, some ⟨true, some r.1.data1⟩, 1) ∧
      received (exec (decodePacket r.1) (offered none)) = some (r.2.1, r.2.2, some ⟨true, some r.1.data1⟩, 1) := by
  decide

/-- RD13 to RD17: no packet, unrecognised packets, and delivery without a transport call. -/
theorem test_read_other :
    (received (exec .read (offered none)) = some (⟨0xAA, 0xAA, 0xAA⟩, 0, some ⟨false, none⟩, 1) ∧
     received (exec .read (offered (some ⟨0x00, 1, 2, 3⟩))) = some (⟨0xAA, 0xAA, 0xAA⟩, 0, some ⟨false, none⟩, 1) ∧
     received (exec .read (offered (some ⟨0xF1, 0x90, 0x3C, 0x7F⟩))) =
        some (⟨0xAA, 0xAA, 0xAA⟩, 0, some ⟨false, none⟩, 1) ∧
     received (exec .read { base with rxBuffer := ⟨0x7F, 0x3C, 0x90⟩, rxIndex := 2 }) =
        some (⟨0x7F, 0x3C, 0x90⟩, 1, some ⟨true, some 0x3C⟩, 0) ∧
     received (exec .read { base with rxBuffer := ⟨0x05, 0xC3, 0x90⟩, rxIndex := 1 }) =
        some (⟨0x05, 0xC3, 0x90⟩, 0, some ⟨true, some 0x05⟩, 0)) := by and_intros <;> decide

/-- I1, I3, I4: INIT without and with `P_INIT_CLEARS_STATE`. -/
theorem test_init :
    (next? (exec .init base) =
        some { base with trace := [.init true], out := ok, transport := ⟨[], [true], [true], [], 1⟩ } ∧
     (next? (exec .init { sending .noteOn 3 ⟨9, 1, 2, 3⟩ with rxIndex := 2 })).map
        (fun s => (s.rxIndex, s.activeType)) = some (2, some .noteOn) ∧
     (next? (exec .init { sending .noteOn 3 ⟨9, 1, 2, 3⟩ with
          rxIndex := 2, rxBuffer := ⟨1, 2, 3⟩, params := { params with initClearsState := true } })).map
        (fun s => (s.rxIndex, s.activeType, s.txIndex, s.txBuffer, s.rxBuffer)) =
        some (0, none, 0, ⟨0, 0, 0, 0⟩, ⟨0, 0, 0⟩)) := by and_intros <;> decide

/-- I5: DEINIT answered false. -/
theorem test_deinit :
    next? (exec .deinit { sending .noteOn 3 ⟨9, 1, 2, 3⟩ with transport := ⟨[], [false], [], [], 0⟩ }) =
      some { sending .noteOn 3 ⟨9, 1, 2, 3⟩ with
             trace := [.deInit false], out := some ⟨false, none⟩, transport := ⟨[], [], [], [], 1⟩ } := by decide

/-- B11: a faulted codec performs nothing. -/
theorem test_faulted : step (given 0x0390 { base with fault := .txOverrun }) = .fault (.quiescent .txOverrun) := rfl

/-- R84 on X5: the refused word sets `refused`, returns (false, none) and changes nothing else. -/
theorem test_refused_word :
    next? (step (given 0x0391 base)) = some { base with refused := true, out := some ⟨false, none⟩ } := by decide

/-- A placed word of each format runs next. -/
theorem test_placed_words :
    ((next? (step (base.withFetchWord 16 0x0390))).map (fun s => s.activeType) = some (some .noteOn) ∧
     received (step (base.withFetchWord 32 0x59903C7F)) = some (⟨0x7F, 0x3C, 0x90⟩, 2, some ⟨true, some 0x90⟩, 1)) := by and_intros <;> decide

/-- The statement over the opcode table, on one row of each format. -/
theorem test_table_rows : Laws.TableRow.Statement (.write 0xF7) ∧ Laws.TableRow.Statement (.cin9 0x5 0x90 0x3C 0x7F) :=
  ⟨Laws.TableRow.write _, Laws.TableRow.cin9 _ _ _ _⟩

/-! ### Witnesses: for every statement with hypotheses, states and operands that meet them together -/

/-- Two bytes of a packet delivered, one left. -/
def holding (n : Fin 4) : State := { base with rxBuffer := ⟨0x7F, 0x3C, 0x90⟩, rxIndex := n }

/-- The packet NOTE_ON 3C 7F of cable 5. -/
def noteOnPacket : Packet := ⟨0x59, 0x90, 0x3C, 0x7F⟩

theorem witness_ResetIsLegal : ∃ c : Params, 3 ≤ c.txIndexLimit ∧ c.txIndexLimit = 3 :=
  ⟨⟨0xF, 3, false, false, true⟩, by decide⟩

theorem witness_DecodeOfEncodeIsTheInstruction :
    Instr.wf (.write 0xFF) = true ∧ Instr.wf (.cinF 0xF 0xFF 0xFF 0xFF) = true ∧ Instr.wf .beginSystemReset = true := by
  decide

theorem witness_EncodeOfDecodeIsTheWord :
    decode (.cmd 0x04FF) = .ok (.write 0xFF) ∧ decode (.pkt 0xF0000000) = .ok (.cin0 0xF 0x00 0x00 0x00) := by decide

/-- One word for each branch of the chain, at the ends of the ranges of `RSV`, `OP` and `ARG`. -/
theorem witness_CommandWordsDecodeOrAreRefused :
    ∀ r ∈ [((0x1100, 1, 1, 0) : CmdWord × Nat × Nat × Nat), (0xFFFF, 15, 15, 255), (0x0000, 0, 0, 0),
        (0x0700, 0, 7, 0), (0x0FFF, 0, 15, 255), (0x0400, 0, 4, 0), (0x04FF, 0, 4, 255), (0x0380, 0, 3, 128),
        (0x03FF, 0, 3, 255), (0x03F7, 0, 3, 247), (0x0501, 0, 5, 1), (0x0100, 0, 1, 0), (0x0200, 0, 2, 0),
        (0x0500, 0, 5, 0), (0x0600, 0, 6, 0)],
      r.2.1 = r.1.toNat / 4096 ∧ r.2.2.1 = r.1.toNat / 256 % 16 ∧ r.2.2.2 = r.1.toNat % 256 := by decide

theorem witness_StepRunsTheDecodedCommand :
    (given 0x0390 base).fault = .none ∧ (given 0x0390 base).commands = 0x0390 :: [] ∧
      decodeCmd 0x0390 = .ok .beginNoteOn := by decide

theorem witness_StepRunsTheRowOfTheFetchedPacket :
    ∃ s : State, s.fault = .none ∧ s.rxIndex = 0 ∧ s.commands = 0x0600 :: [] ∧
      s.transport.readAnswers = some noteOnPacket :: [] :=
  ⟨given 0x0600 (offered (some noteOnPacket)), by decide⟩

theorem witness_PlacedTableWordIsRunNext :
    base.fault = .none ∧ decodeTableWord 16 0x0100 = some .init ∧
      decodeTableWord 32 0xFFFFFFFF = some (.cinF 0xF 0xFF 0xFF 0xFF) := by decide

theorem witness_StepWithoutCommandWaits : base.fault = .none ∧ base.commands = [] := by decide

theorem witness_RefusedWordOnlySetsRefused :
    ((given 0x0391 base).fault = .none ∧ (given 0x0391 base).commands = 0x0391 :: [] ∧
      decodeCmd 0x0391 = .error .unknownMessageType) ∧
    (∃ s t : State, step s = .next t ∧ s.refused = true) ∧
    (∃ s t : State, step s = .next t ∧ s.refused = false) :=
  ⟨by decide, ⟨given 0x0390 { base with refused := true }, _, rfl, by decide⟩, ⟨given 0x0600 (holding 1), _, rfl, rfl⟩⟩

theorem witness_FaultedCodecIsQuiescent : ({ base with fault := .txOverrun } : State).fault ≠ .none := by decide

theorem witness_UnfaultedCodecAlwaysSteps : base.fault = .none := by decide

/-- A WRITE with no message in progress. -/
theorem witness_RaisingAFaultChangesNothingElse :
    ∃ t, exec (.write 0x90) base = .next t ∧ t.fault ≠ .none := ⟨_, rfl, by decide⟩

/-- The three clauses; TX_OVERRUN at `txIndex` 3, the overflow at the limit. -/
theorem witness_ProtocolViolationsRaiseTheirFault :
    (base.fault = .none ∧ base.activeType = none) ∧
    (∃ s : State, s.fault = .none ∧ s.activeType = some .noteOn ∧ MessageType.noteOn ≠ .sysEx ∧ 3 ≤ s.txIndex ∧
      s.txIndex = 3) ∧
    (∃ s : State, s.fault = .none ∧ s.activeType = some .sysEx ∧
      (MessageType.sysEx = .sysEx ∨ s.txIndex < 3) ∧ s.txIndex = s.params.txIndexLimit) :=
  ⟨by decide, ⟨sending .noteOn 3 ⟨9, 1, 2, 3⟩, by decide⟩, ⟨sending .sysEx 64 ⟨4, 1, 2, 3⟩, by decide⟩⟩

theorem witness_BeginStartsAMessage :
    (Instr.beginNoteOff, MessageType.noteOff, 0x0380#16, 0x8#4) ∈ beginRows ∧
      (Instr.beginSystemReset, MessageType.systemReset, 0x03FF#16, 0xF#4) ∈ beginRows ∧ base.fault = .none := by decide

/-- Each of the three slots. -/
theorem witness_WriteStoresANonSysexByte :
    ∀ n ∈ [0, 1, 2], ∃ s : State, s.fault = .none ∧ s.activeType = some .noteOn ∧ MessageType.noteOn ≠ .sysEx ∧
      s.txIndex = n ∧ s.txIndex < 3 ∧ s.txIndex ≠ s.params.txIndexLimit := by
  intro n hn
  refine ⟨sending .noteOn n ⟨9, 0, 0, 0⟩, ?_⟩
  revert n
  decide

/-- Each group position, at the start of a message and just below the limit, with a terminator and without. -/
theorem witness_WriteFragmentsSysex :
    ∀ n ∈ [0, 1, 2, 63], ∀ b ∈ [0xF7#8, 0x00#8], ∃ (s : State) (p : Nat), s.fault = .none ∧
      s.activeType = some .sysEx ∧ s.txIndex = n ∧ s.txIndex ≠ s.params.txIndexLimit ∧ p = s.txIndex % 3 ∧
      (b = 0xF7 ∨ b ≠ 0xF7) := by
  intro n hn b _
  refine ⟨sending .sysEx n ⟨4, 0, 0, 0⟩, n % 3, rfl, rfl, rfl, ?_, rfl, by tauto⟩
  revert n
  decide

theorem witness_FailedAutoFlushIsNotRetried :
    ∃ (s : State) (b c : Byte), s.fault = .none ∧ s.activeType = some .sysEx ∧ s.txIndex % 3 = 2 ∧
      s.txIndex + 1 < s.params.txIndexLimit ∧ b ≠ 0xF7 ∧ s.transport.writeAnswer = false ∧ c ≠ 0xF7 :=
  ⟨{ sending .sysEx 2 ⟨4, 0xF0, 0x11, 0⟩ with transport := ⟨[], [], [false], [], 0⟩ }, 0x22, 0x33, by decide⟩

theorem witness_EndSendsTheBuffer :
    (∃ s : State, s.fault = .none ∧ s.activeType ≠ none) ∧ ∃ s : State, s.fault = .none ∧ s.activeType = none :=
  ⟨⟨sending .noteOn 3 ⟨9, 1, 2, 3⟩, by decide⟩, base, by decide⟩

/-- An END, and a WRITE that auto-flushes. -/
theorem witness_EndSendsTheSamePacketAgain :
    (∃ (s t : State) (p : Packet) (ok : Bool), s.fault = .none ∧ exec .endMessage s = .next t ∧
      t.trace = s.trace ++ [.wr p ok]) ∧
    (∃ (s t : State) (p : Packet) (ok : Bool), s.fault = .none ∧ exec (.write 0x22) s = .next t ∧
      t.trace = s.trace ++ [.wr p ok]) :=
  ⟨⟨sending .noteOn 3 ⟨9, 1, 2, 3⟩, _, _, _, rfl, rfl, rfl⟩,
   ⟨sending .sysEx 2 ⟨4, 0xF0, 0x11, 0⟩, _, _, _, rfl, rfl, rfl⟩⟩

/-- `rxIndex` of 1, 2 and 3. -/
theorem witness_ReadDeliversABufferedByte :
    ∀ n ∈ [(1 : Fin 4), 2, 3], (holding n).fault = .none ∧ (holding n).rxIndex = n := by decide

theorem witness_ReadWithNoPacketReturnsFalse :
    (offered none).fault = .none ∧ (offered none).rxIndex = 0 ∧ (offered none).transport.readAnswer = none := by decide

theorem witness_ReadPerformsTheRowOfItsPacket :
    (offered (some noteOnPacket)).rxIndex = 0 ∧
      (offered (some noteOnPacket)).transport.readAnswer = some noteOnPacket := by decide

/-- Both CINs of the class. -/
theorem witness_OneBytePacketIsClassifiedAndDelivered :
    (offered none).fault = .none ∧ (offered none).rxIndex = 0 ∧
      (0x5#4, Instr.cin5 0x0 0xF6 0x00 0x00) ∈ packetRows 0x0 0xF6 0x00 0x00 ∧
      (0xF#4, Instr.cinF 0x0 0xF6 0x00 0x00) ∈ packetRows 0x0 0xF6 0x00 0x00 ∧
      0x5#4 ∈ [0x5#4, 0xF#4] ∧ 0xF#4 ∈ [0x5#4, 0xF#4] := by decide

/-- The first and the last CIN of the class. -/
theorem witness_TwoBytePacketIsClassifiedAndDelivered :
    (offered none).fault = .none ∧ (offered none).rxIndex = 0 ∧
      (0x2#4, Instr.cin2 0xF 0xF1 0x23 0x00) ∈ packetRows 0xF 0xF1 0x23 0x00 ∧
      (0xD#4, Instr.cinD 0xF 0xF1 0x23 0x00) ∈ packetRows 0xF 0xF1 0x23 0x00 ∧
      0x2#4 ∈ [0x2#4, 0x6#4, 0xC#4, 0xD#4] ∧ 0xD#4 ∈ [0x2#4, 0x6#4, 0xC#4, 0xD#4] := by decide

/-- The first and the last CIN of the class. -/
theorem witness_ThreeBytePacketIsClassifiedAndDelivered :
    (offered none).fault = .none ∧ (offered none).rxIndex = 0 ∧
      (0x3#4, Instr.cin3 0x5 0x90 0x3C 0x7F) ∈ packetRows 0x5 0x90 0x3C 0x7F ∧
      (0xE#4, Instr.cinE 0x5 0x90 0x3C 0x7F) ∈ packetRows 0x5 0x90 0x3C 0x7F ∧
      0x3#4 ∈ [0x3#4, 0x4#4, 0x7#4, 0x8#4, 0x9#4, 0xA#4, 0xB#4, 0xE#4] ∧
      0xE#4 ∈ [0x3#4, 0x4#4, 0x7#4, 0x8#4, 0x9#4, 0xA#4, 0xB#4, 0xE#4] := by decide

/-- Both CINs. -/
theorem witness_UnrecognisedPacketIsDropped :
    (offered none).fault = .none ∧ (offered none).rxIndex = 0 ∧
      (0x0#4, Instr.cin0 0x0 0x01 0x02 0x03) ∈ packetRows 0x0 0x01 0x02 0x03 ∧
      (0x1#4, Instr.cin1 0x0 0x01 0x02 0x03) ∈ packetRows 0x0 0x01 0x02 0x03 ∧
      0x0#4 ∈ [0x0#4, 0x1#4] ∧ 0x1#4 ∈ [0x0#4, 0x1#4] := by decide

theorem witness_UndeliveredBytesHoldBackPackets :
    ∀ n ∈ [(1 : Fin 4), 3], (holding n).fault = .none ∧ (holding n).rxIndex ≠ 0 := by decide

theorem witness_CableNumberIsIgnoredOnReceive :
    ∃ p q : Packet, p ≠ q ∧ base.fault = .none ∧ base.rxIndex = 0 ∧ p.cin = q.cin ∧ p.data1 = q.data1 ∧ p.data2 = q.data2 ∧
      p.data3 = q.data3 :=
  ⟨noteOnPacket, ⟨0x09, 0x90, 0x3C, 0x7F⟩, by decide⟩

/-- INIT in an instance that clears and in one that does not. -/
theorem witness_InitCallsTheHookAndMayClear :
    base.fault = .none ∧ base.params.initClearsState = false ∧
      ∃ s : State, s.fault = .none ∧ s.params.initClearsState = true :=
  ⟨rfl, rfl, { base with params := { params with initClearsState := true } }, by decide⟩

theorem witness_DeinitOnlyCallsTheHook : base.fault = .none := by decide

/-- The five kinds of `isTransmit` and `isReceive`. -/
theorem witness_DirectionsShareNoState :
    (∃ t, exec .beginNoteOn base = .next t ∧ isTransmit .beginNoteOn) ∧
    (∃ t, exec (.write 0x90) base = .next t ∧ isTransmit (.write 0x90)) ∧
    (∃ t, exec .endMessage base = .next t ∧ isTransmit .endMessage) ∧
    (∃ t, exec .read base = .next t ∧ isReceive .read) ∧
    (∃ t, exec (decodePacket noteOnPacket) base = .next t ∧ isReceive (decodePacket noteOnPacket)) :=
  ⟨⟨_, rfl, Or.inl ⟨.noteOn, rfl⟩⟩, ⟨_, rfl, Or.inr (Or.inl ⟨0x90, rfl⟩)⟩, ⟨_, rfl, Or.inr (Or.inr rfl)⟩,
   ⟨_, rfl, Or.inl rfl⟩, ⟨_, rfl, Or.inr ⟨_, rfl⟩⟩⟩

/-- Both clauses, the first with bytes undelivered and with a packet waiting. -/
theorem witness_NeitherDirectionDisturbsTheOther :
    (∃ (s t u : State), isTransmit .beginNoteOn ∧ exec .beginNoteOn s = .next t ∧ t.fault = .none ∧
      (s.rxIndex ≠ 0 ∨ s.transport.readAnswers ≠ []) ∧ exec .read s = .next u ∧ s.rxIndex = 1) ∧
    (∃ (s t u : State), isTransmit .endMessage ∧ exec .endMessage s = .next t ∧ t.fault = .none ∧
      (s.rxIndex ≠ 0 ∨ s.transport.readAnswers ≠ []) ∧ exec .read s = .next u ∧ s.rxIndex = 0) ∧
    (∃ (s t u : State), isReceive .read ∧ exec .read s = .next t ∧ s.activeType ≠ none ∧
      exec .endMessage s = .next u) :=
  ⟨⟨holding 1, _, _, Or.inl ⟨.noteOn, rfl⟩, rfl, rfl, Or.inl (by decide), rfl, rfl⟩,
   ⟨{ offered (some noteOnPacket) with activeType := some .noteOn }, _, _, Or.inr (Or.inr rfl), rfl, rfl,
     Or.inr (by decide), rfl, rfl⟩,
   ⟨sending .noteOn 3 ⟨9, 1, 2, 3⟩, _, _, Or.inl rfl, rfl, by decide, rfl⟩⟩

/-- A BEGIN, a non-sysex WRITE and a READ with bytes undelivered. -/
theorem witness_AtMostOneTransportCallPerCommand :
    (∃ t, exec .beginNoteOn base = .next t ∧ ∃ ty, Instr.beginNoteOn = MessageType.beginInstr ty) ∧
    (∃ t, exec (.write 0x90) (sending .noteOn 0 ⟨9, 0, 0, 0⟩) = .next t ∧
      (sending .noteOn 0 ⟨9, 0, 0, 0⟩).activeType ≠ some .sysEx) ∧
    (∃ t, exec .read (holding 1) = .next t ∧ isReceive .read ∧ (holding 1).rxIndex ≠ 0) :=
  ⟨⟨_, rfl, .noteOn, rfl⟩, ⟨_, rfl, by decide⟩, ⟨_, rfl, Or.inl rfl, by decide⟩⟩

theorem witness_StickyMarksAndParametersStay :
    (∃ s t : State, step s = .next t ∧ s.refused = true) ∧ ∃ (i : Instr) (s t : State), exec i s = .next t :=
  ⟨⟨given 0x0390 { base with refused := true }, _, rfl, rfl⟩, ⟨.endMessage, base, _, rfl⟩⟩

/-- A state in a message, with its limit at the least value. -/
theorem witness_StepKeepsRegistersLegal :
    ∃ s t : State, s.RegistersLegal ∧ step s = .next t :=
  ⟨given 0x0490 { sending .noteOn 0 ⟨0x59, 0, 0, 0⟩ with params := ⟨0x5, 3, true, true, false⟩ }, _,
   ⟨rfl, by decide, by decide, by decide⟩, rfl⟩

theorem witness_StepKeepsWireLegal :
    ∃ s t : State, s.WireLegal ∧ step s = .next t :=
  ⟨given 0x0500 { sending .noteOn 3 noteOnPacket with params := ⟨0x5, 3, true, true, false⟩ }, _,
   ⟨fun _ => ⟨by decide, by decide⟩, fun _ _ h => absurd h (List.not_mem_nil)⟩, rfl⟩

/-- A message of each of the three lengths. -/
theorem witness_FixedLengthMessageSendsOnePacket :
    (Instr.beginNoteOn, MessageType.noteOn, 0x0390#16, 0x9#4) ∈ beginRows ∧ MessageType.noteOn ≠ .sysEx ∧
      MessageType.lenOf .noteOn = some [0x90#8, 0x3C, 0x7F].length ∧
      MessageType.lenOf .programChange = some [0xC3#8, 0x05].length ∧
      MessageType.lenOf .clock = some [0xF8#8].length ∧
      ∃ s : State, s.fault = .none ∧ 3 ≤ s.params.txIndexLimit ∧ s.params.txIndexLimit = 3 :=
  ⟨by decide, by decide, rfl, rfl, rfl, { base with params := { params with txIndexLimit := 3 } }, by decide⟩

/-- A sender, and a receiver that is answered with its packet. -/
theorem witness_FixedLengthRoundTrip :
    MessageType.lenOf .noteOn = some [0x90#8, 0x3C, 0x7F].length ∧ base.fault = .none ∧
      3 ≤ base.params.txIndexLimit ∧
      ∃ u : State, u.fault = .none ∧ u.rxIndex = 0 ∧ u.transport.readAnswers = some noteOnPacket :: [] :=
  ⟨rfl, rfl, by decide, offered (some noteOnPacket), rfl, rfl, rfl⟩

/-- Body lengths 0, 1 and 2, the limit met exactly. -/
theorem witness_SysexMessagePackets :
    ∀ body ∈ [[], [0x11#8], [0x11#8, 0x22]], (∀ b ∈ body, b ≠ 0xF7) ∧
      ∃ s : State, s.fault = .none ∧ body.length + 2 ≤ s.params.txIndexLimit ∧
        s.params.txIndexLimit = Nat.max 3 (body.length + 2) := by
  intro body hb
  refine ⟨by revert body; decide, { base with params := { params with txIndexLimit := Nat.max 3 (body.length + 2) } },
    rfl, Nat.le_max_right _ _, rfl⟩

/-- A sender, and a receiver that is answered with the packets of S3. -/
theorem witness_SysexRoundTrip :
    (∀ b ∈ [0x11#8, 0x22], b ≠ 0xF7) ∧ base.fault = .none ∧ [0x11#8, 0x22].length + 2 ≤ base.params.txIndexLimit ∧
      ∃ u : State, u.fault = .none ∧ u.rxIndex = 0 ∧
        u.transport.readAnswers = [(⟨0x04, 0xF0, 0x11, 0x22⟩ : Packet), ⟨0x05, 0xF7, 0x00, 0x00⟩].map some ++ [none] :=
  ⟨by decide, rfl, by decide,
   { base with transport := ⟨[], [], [], [some ⟨0x04, 0xF0, 0x11, 0x22⟩, some ⟨0x05, 0xF7, 0x00, 0x00⟩, none], 0⟩ },
   rfl, rfl, rfl⟩

/-- A packet of each length. -/
theorem witness_PacketsAreDeliveredInOrder :
    ∃ (ps : List Packet) (s : State), s.fault = .none ∧ s.rxIndex = 0 ∧
      (∀ p ∈ ps, p.cin ≠ 0x0 ∧ p.cin ≠ 0x1) ∧ s.transport.readAnswers = ps.map some ++ [none] ∧ ps.length = 3 :=
  ⟨[⟨0x0F, 0xF8, 0x00, 0x00⟩, ⟨0x0C, 0xC3, 0x05, 0x7F⟩, noteOnPacket],
   { base with transport := ⟨[], [], [], [some ⟨0x0F, 0xF8, 0x00, 0x00⟩, some ⟨0x0C, 0xC3, 0x05, 0x7F⟩,
      some noteOnPacket, none], 0⟩ }, by decide⟩

/-- A stream of a fixed-length message with a READ in it, and a sysex message. -/
theorem witness_WellFormedStreamsRunSafely :
    ∃ (is : List Instr) (s : State), wellFormedStream s.params is = true ∧ s.fault = .none ∧
      3 ≤ s.params.txIndexLimit ∧ s.commands = is.filterMap Instr.cmdWord ∧ is.length = 8 :=
  ⟨[.beginClock, .write 0xF8, .read, .endMessage, .beginSysEx, .write 0xF0, .write 0xF7, .endMessage],
   { base with commands := [0x03F8, 0x04F8, 0x0600, 0x0500, 0x03F0, 0x04F0, 0x04F7, 0x0500] }, by decide⟩

/-- One pseudo-instruction of each form; the limit met exactly. -/
theorem witness_PseudoInstructionsExpandWellFormed :
    (Pseudo.send .noteOn [0x90, 0x3C, 0x7F]).wf = true ∧ (Pseudo.recv 3).wf = true ∧
      (Pseudo.sysex [0x11]).wf = true ∧
      ∀ body, Pseudo.sysex [0x11] = .sysex body → body.length + 2 ≤ ({ params with txIndexLimit := 3 } : Params).txIndexLimit := by
  refine ⟨by decide, by decide, by decide, ?_⟩
  rintro body h
  cases h
  decide

end Sys2Proof.Tests
end

section
/-! What every command does to the caller's stream and to the record of transport calls (00_scope.md R11;
20_memory.md R57, R58). -/

namespace Sys2Proof.Machine

@[simp] theorem State.acceptPacket_commands (c : RxClass) (p : Packet) (s : State) :
    (s.acceptPacket c p).commands = s.commands := by
  cases c <;> rfl

@[simp] theorem State.acceptPacket_trace (c : RxClass) (p : Packet) (s : State) :
    (s.acceptPacket c p).trace = s.trace ++ [.rd (some p)] := by
  cases c <;> rfl

@[simp] theorem State.acceptPacket_transport (c : RxClass) (p : Packet) (s : State) :
    (s.acceptPacket c p).transport = s.transport.afterRead := by
  cases c <;> rfl

/-! ### The caller's stream -/

/-- Only taking the word touches the caller's stream: no effect issues or drops a command. -/
@[simp] theorem effect_commands (i : Instr) (s : State) : (effect i s).commands = s.commands := by
  rcases effect_cases i s with ⟨_, h⟩ | ⟨_, h⟩ | ⟨_, _, h⟩ |
      ⟨_, _, ⟨_, _, h⟩ | ⟨_, _, _, _, h⟩ | ⟨_, _, _, h⟩ | ⟨_, _, h⟩⟩ |
      ⟨_, ⟨_, h⟩ | ⟨_, h⟩⟩ | ⟨_, ⟨_, h⟩ | ⟨_, h⟩ | ⟨_, _, h⟩⟩ <;>
    rw [h]
  · split <;> rfl
  all_goals simp

/-! ### Transport calls -/

/-- From `s` to `t` exactly the transport calls `es` were made, and each was recorded (R57, R58). -/
def MadeCalls (s t : State) (es : List Event) : Prop :=
  t.trace = s.trace ++ es ∧ t.transport.calls = s.transport.calls + es.length

theorem exists_madeCalls_of_none {s t : State} (htrace : t.trace = s.trace) (hport : t.transport = s.transport) :
    ∃ es, es.length ≤ 1 ∧ MadeCalls s t es :=
  ⟨[], Nat.zero_le 1, by simp [MadeCalls, htrace, hport]⟩

theorem exists_madeCalls_of_one {s t : State} {e : Event} (htrace : t.trace = s.trace ++ [e])
    (hcalls : t.transport.calls = s.transport.calls + 1) : ∃ es, es.length ≤ 1 ∧ MadeCalls s t es :=
  ⟨[e], Nat.le_refl 1, htrace, hcalls⟩

/-- The trace says which calls were made. -/
theorem MadeCalls.eq_nil {s t : State} {es : List Event} (h : MadeCalls s t es) (htrace : t.trace = s.trace) :
    es = [] :=
  List.append_right_eq_self.1 (h.1.symm.trans htrace)

/-- R11: an effect calls the transport at most once. -/
theorem effect_makes_at_most_one_call (i : Instr) (s : State) :
    ∃ es, es.length ≤ 1 ∧ MadeCalls s (effect i s) es := by
  rcases effect_cases i s with ⟨_, h⟩ | ⟨_, h⟩ | ⟨_, _, h⟩ | ⟨_, _, hwrite⟩ | ⟨_, hend⟩ | ⟨_, hread⟩
  · rw [h]
    split <;> exact exists_madeCalls_of_one rfl rfl
  · rw [h]
    exact exists_madeCalls_of_one rfl rfl
  · rw [h]
    exact exists_madeCalls_of_none rfl rfl
  · rcases hwrite with ⟨_, _, h⟩ | ⟨_, _, _, _, h⟩ | ⟨_, _, _, h⟩ | ⟨_, _, h⟩ <;> rw [h]
    · exact exists_madeCalls_of_none rfl rfl
    · exact exists_madeCalls_of_one rfl rfl
    · exact exists_madeCalls_of_none rfl rfl
    · exact exists_madeCalls_of_none rfl rfl
  · rcases hend with ⟨_, h⟩ | ⟨_, h⟩ <;> rw [h]
    · exact exists_madeCalls_of_none rfl rfl
    · exact exists_madeCalls_of_one rfl rfl
  · rcases hread with ⟨_, h⟩ | ⟨_, h⟩ | ⟨p, _, h⟩ <;> rw [h]
    · exact exists_madeCalls_of_none rfl rfl
    · exact exists_madeCalls_of_one rfl rfl
    · exact exists_madeCalls_of_one (s.acceptPacket_trace _ p) (by simp)

/-- R103: without a sysex message in progress a WRITE sends nothing. -/
theorem writeByte_trace_of_not_sysEx (b : Byte) {s : State} (h : s.activeType ≠ some .sysEx) :
    (s.writeByte b).trace = s.trace := by
  rcases s.writeByte_cases b with ⟨_, _, hw⟩ | ⟨_, hsys, _⟩ | ⟨_, _, hw⟩
  · rw [hw]; rfl
  · exact absurd hsys h
  · rw [hw]; rfl

/-- R140, R219: while bytes are undelivered the transport is not asked. -/
theorem effect_receive_of_undelivered {i : Instr} {s : State} (hi : Statements.isReceive i)
    (h : s.rxIndex ≠ 0) : effect i s = s.deliver := by
  rcases hi with rfl | ⟨p, rfl⟩
  · exact if_neg h
  · rw [effect_decodePacket]
    exact if_neg h

/-- Settles O9: `step` is `exec` of the decoded command, and only taking the word changes the stream. -/
theorem stepRunsTheDecodedCommand : Obligations.StepRunsTheDecodedCommand := by
  intro s w rest i hf hc hd
  refine ⟨effect i s.takeCommand, ?_, exec_ok i hf, ?_⟩
  · rw [step_command hf hc hd, exec_ok i hf]
  · simp [hc]

/-- Settles O37: the calls are those of the effect; where the trace stays as it was there are none. -/
theorem atMostOneTransportCallPerCommand : Obligations.AtMostOneTransportCallPerCommand := by
  intro i s t h
  obtain ⟨-, rfl⟩ := (exec_eq_next_iff i s t).1 h
  obtain ⟨es, hlen, hmade⟩ := effect_makes_at_most_one_call i s.takeCommand
  refine ⟨es, hmade.1, hlen, hmade.2, ?_, ?_, ?_⟩ <;> intro hi
  · obtain ⟨ty, rfl⟩ := hi
    exact hmade.eq_nil (by rw [effect_beginInstr, State.beginMessage_trace])
  · obtain ⟨b, rfl⟩ := hi
    exact fun hA => hmade.eq_nil (writeByte_trace_of_not_sysEx b hA)
  · exact fun hr => hmade.eq_nil (by rw [effect_receive_of_undelivered (s := s.takeCommand) hi hr, State.deliver_trace])

end Sys2Proof.Machine
end

section
/-! The state after reset, what each direction leaves unchanged, and the register invariant (10_state.md R24,
R30 to R36; 70_reset_and_hazards.md R200, R202). -/

namespace Sys2Proof.Machine

open Statements

/-! ### Reset -/

theorem resetWith_registersLegal {c : Params} (h : 3 ≤ c.txIndexLimit) : (State.resetWith c).RegistersLegal where
  limit := decide_eq_true h
  counter := Nat.zero_le _
  fixedLength _ hA := nomatch hA
  cable hA := absurd (State.resetWith_activeType c) hA

theorem resetWith_wireLegal (c : Params) : (State.resetWith c).WireLegal where
  buffer hA := absurd (State.resetWith_activeType c) hA
  sent _ _ hmem := absurd hmem List.not_mem_nil

/-! ### The fragmentor, field by field -/

/-- R120, R126: the fragmentor writes the packet; the auto-flush adds a transport call and its answer, no more. -/
theorem State.sysexStore_eq (b : Byte) (s : State) :
    s.sysexStore b =
      { s with
        txBuffer := sysexPacket s.params (s.txIndex % 3) b s.txBuffer
        trace := (s.sysexStore b).trace
        transport := (s.sysexStore b).transport
        out := (s.sysexStore b).out } := by
  rcases s.sysexStore_cases b with ⟨-, -, h⟩ | ⟨-, h⟩ <;> rw [h] <;> rfl

@[simp] theorem State.sysexStore_activeType (b : Byte) (s : State) : (s.sysexStore b).activeType = s.activeType := by
  rw [sysexStore_eq]
@[simp] theorem State.sysexStore_txIndex (b : Byte) (s : State) : (s.sysexStore b).txIndex = s.txIndex := by
  rw [sysexStore_eq]
@[simp] theorem State.sysexStore_txBuffer (b : Byte) (s : State) :
    (s.sysexStore b).txBuffer = sysexPacket s.params (s.txIndex % 3) b s.txBuffer := by
  rw [sysexStore_eq]
@[simp] theorem State.sysexStore_rxBuffer (b : Byte) (s : State) : (s.sysexStore b).rxBuffer = s.rxBuffer := by
  rw [sysexStore_eq]
@[simp] theorem State.sysexStore_rxIndex (b : Byte) (s : State) : (s.sysexStore b).rxIndex = s.rxIndex := by
  rw [sysexStore_eq]
@[simp] theorem State.sysexStore_refused (b : Byte) (s : State) : (s.sysexStore b).refused = s.refused := by
  rw [sysexStore_eq]
@[simp] theorem State.sysexStore_params (b : Byte) (s : State) : (s.sysexStore b).params = s.params := by
  rw [sysexStore_eq]

/-- An auto-flush takes no packet from the transport. -/
@[simp] theorem State.sysexStore_readAnswers (b : Byte) (s : State) :
    (s.sysexStore b).transport.readAnswers = s.transport.readAnswers := by
  rcases s.sysexStore_cases b with ⟨-, -, h⟩ | ⟨-, h⟩ <;> rw [h] <;> rfl

/-! ### Each direction leaves the other's registers, R35 -/

/-- From `s` to `t` nothing changed that belongs to the receive direction or to neither (R35). -/
structure ReceiveSideKept (s t : State) : Prop where
  rxBuffer : t.rxBuffer = s.rxBuffer
  rxIndex : t.rxIndex = s.rxIndex
  refused : t.refused = s.refused
  params : t.params = s.params
  readAnswers : t.transport.readAnswers = s.transport.readAnswers

/-- From `s` to `t` nothing changed that belongs to the transmit direction or to neither (R35). -/
structure TransmitSideKept (s t : State) : Prop where
  activeType : t.activeType = s.activeType
  txIndex : t.txIndex = s.txIndex
  txBuffer : t.txBuffer = s.txBuffer
  fault : t.fault = s.fault
  refused : t.refused = s.refused
  params : t.params = s.params
  writeAnswers : t.transport.writeAnswers = s.transport.writeAnswers

theorem writeByte_keeps_receiveSide (b : Byte) (s : State) : ReceiveSideKept s (s.writeByte b) := by
  rcases s.writeByte_cases b with ⟨code, -, h⟩ | ⟨-, -, h⟩ | ⟨-, -, h⟩ <;> rw [h]
  · exact ⟨rfl, rfl, rfl, rfl, rfl⟩
  · exact ⟨s.sysexStore_rxBuffer b, s.sysexStore_rxIndex b, s.sysexStore_refused b, s.sysexStore_params b,
      s.sysexStore_readAnswers b⟩
  · exact ⟨rfl, rfl, rfl, rfl, rfl⟩

theorem flush_keeps_receiveSide (s : State) : ReceiveSideKept s s.flush := by
  rcases s.flush_cases with ⟨-, h⟩ | ⟨-, h⟩ <;> rw [h] <;> exact ⟨rfl, rfl, rfl, rfl, rfl⟩

theorem effect_keeps_receiveSide {i : Instr} (hi : isTransmit i) (s : State) : ReceiveSideKept s (effect i s) := by
  rcases hi with ⟨ty, rfl⟩ | ⟨b, rfl⟩ | rfl
  · rw [effect_beginInstr]
    exact ⟨rfl, rfl, rfl, rfl, rfl⟩
  · exact writeByte_keeps_receiveSide b s
  · exact flush_keeps_receiveSide s

theorem deliver_keeps_transmitSide (s : State) : TransmitSideKept s s.deliver :=
  ⟨rfl, rfl, rfl, rfl, rfl, rfl, rfl⟩

theorem acceptPacket_keeps_transmitSide (c : RxClass) (p : Packet) (s : State) :
    TransmitSideKept s (s.acceptPacket c p) := by
  cases c <;> exact ⟨rfl, rfl, rfl, rfl, rfl, rfl, rfl⟩

theorem effect_keeps_transmitSide {i : Instr} (hi : isReceive i) (s : State) : TransmitSideKept s (effect i s) := by
  rcases hi with rfl | ⟨p, rfl⟩
  · change TransmitSideKept s s.readByte
    rcases s.readByte_cases with ⟨-, h⟩ | ⟨-, -, h⟩ | ⟨p, -, -, h⟩ <;> rw [h]
    · exact deliver_keeps_transmitSide s
    · exact ⟨rfl, rfl, rfl, rfl, rfl, rfl, rfl⟩
    · exact acceptPacket_keeps_transmitSide _ p s
  · rw [effect_decodePacket]
    rcases s.receivePacket_cases (rxClass p.cin) p with ⟨-, h⟩ | ⟨-, h⟩ <;> rw [h]
    · exact deliver_keeps_transmitSide s
    · exact acceptPacket_keeps_transmitSide _ p s

/-! ### What no command changes -/

/-- Every instruction is a lifecycle command or works in one of the two directions. -/
theorem lifecycle_or_transmit_or_receive (i : Instr) : i = .init ∨ i = .deinit ∨ isTransmit i ∨ isReceive i := by
  rcases instr_kinds i with h | h | h | h | h | h | h
  · exact .inl h
  · exact .inr (.inl h)
  · exact .inr (.inr (.inl (.inl h)))
  · exact .inr (.inr (.inl (.inr (.inl h))))
  · exact .inr (.inr (.inl (.inr (.inr h))))
  · exact .inr (.inr (.inr (.inl h)))
  · exact .inr (.inr (.inr (.inr h)))

/-- The effect of INIT, R160. -/
theorem effect_init (s : State) :
    effect .init s = (if s.params.initClearsState then s.clearCodec else s).hwInit := rfl

@[simp] theorem effect_params (i : Instr) (s : State) : (effect i s).params = s.params := by
  rcases lifecycle_or_transmit_or_receive i with rfl | rfl | h | h
  · rw [effect_init]
    split <;> rfl
  · rfl
  · exact (effect_keeps_receiveSide h s).params
  · exact (effect_keeps_transmitSide h s).params

/-- R31: `refused` is for the words that are no command. -/
@[simp] theorem effect_refused (i : Instr) (s : State) : (effect i s).refused = s.refused := by
  rcases lifecycle_or_transmit_or_receive i with rfl | rfl | h | h
  · rw [effect_init]
    split <;> rfl
  · rfl
  · exact (effect_keeps_receiveSide h s).refused
  · exact (effect_keeps_transmitSide h s).refused

/-- R32: an effect only appends to the trace. -/
theorem effect_extends_trace (i : Instr) (s : State) : ∃ es, (effect i s).trace = s.trace ++ es :=
  let ⟨es, _, hmade⟩ := effect_makes_at_most_one_call i s
  ⟨es, hmade.1⟩

/-! ### The cable number in the header, R73 -/

theorem cable_eq_of_event_eq {p q : Packet} (h : p.event = q.event) : p.cable = q.cable :=
  congrArg (BitVec.extractLsb' 4 4) h

theorem cable_of_event_header {p : Packet} {cn cin : Nibble} (h : p.event = header cn cin) : p.cable = cn :=
  (congrArg (BitVec.extractLsb' 4 4) h).trans (header_cable_bits cn cin)

theorem beginPacket_cable (c : Params) (ty : MessageType) (k : Packet) : (beginPacket c ty k).cable = c.cable :=
  cable_of_event_header (beginPacket_event c ty k)

theorem setSlot_cable (k : Packet) (p : Nat) (b : Byte) : (k.setSlot p b).cable = k.cable :=
  cable_eq_of_event_eq (setSlot_event k p b)

/-- A sysex byte rewrites the header with the codec's own cable number or leaves it (R121, R122). -/
theorem sysexPacket_cable {c : Params} {k : Packet} (h : k.cable = c.cable) (p : Nat) (b : Byte) :
    (sysexPacket c p b k).cable = c.cable := by
  rcases sysexPacket_event c p b k with he | ⟨cin, -, he⟩
  · exact (cable_eq_of_event_eq he).trans h
  · exact cable_of_event_header he

/-! ### The register invariant, R34 -/

namespace State.RegistersLegal

/-- The invariant speaks of the transmit registers and the parameters only. -/
theorem of_eq {s t : State} (h : s.RegistersLegal) (hA : t.activeType = s.activeType) (hI : t.txIndex = s.txIndex)
    (hB : t.txBuffer = s.txBuffer) (hP : t.params = s.params) : t.RegistersLegal where
  limit := hP ▸ h.limit
  counter := by rw [hI, hP]; exact h.counter
  fixedLength := by rw [hA, hI]; exact h.fixedLength
  cable := by rw [hA, hB, hP]; exact h.cable

/-- A state without a message, its counter at 0, is legal. -/
theorem of_idle {s t : State} (h : s.RegistersLegal) (hA : t.activeType = none) (hI : t.txIndex = 0)
    (hP : t.params = s.params) : t.RegistersLegal where
  limit := hP ▸ h.limit
  counter := hI ▸ Nat.zero_le _
  fixedLength := by simp [hA]
  cable := by simp [hA]

/-- BEGIN starts a legal message: counter 0, own cable number in the header (R100). -/
theorem beginMessage {s : State} (h : s.RegistersLegal) (ty : MessageType) : (s.beginMessage ty).RegistersLegal where
  limit := h.limit
  counter := Nat.zero_le _
  fixedLength _ _ _ := Nat.zero_le 3
  cable _ := beginPacket_cable s.params ty s.txBuffer

/-- A WRITE that does not fault has room for its byte: the two bounds that R102 tests are the invariant's. -/
theorem of_counted {s t : State} (h : s.RegistersLegal) (hF : s.writeFault = none) (hA : t.activeType = s.activeType)
    (hI : t.txIndex = s.txIndex + 1) (hP : t.params = s.params) (hB : t.txBuffer.cable = s.params.cable) :
    t.RegistersLegal := by
  have hle := h.counter
  rcases s.writeFault_cases with ⟨hF', -⟩ | ⟨ty, hty, ⟨hF', -⟩ | ⟨hF', -⟩ | ⟨-, hroom, hne⟩⟩
  · simp [hF] at hF'
  · simp [hF] at hF'
  · simp [hF] at hF'
  · refine ⟨hP ▸ h.limit, by rw [hI, hP]; omega, fun ty' hty' hns => ?_, fun _ => hB.trans (congrArg _ hP.symm)⟩
    obtain rfl : ty = ty' := Option.some.inj (hty.symm.trans (hA.symm.trans hty'))
    have hlt : s.txIndex < 3 := hroom.resolve_left hns
    omega

/-- The header holds the codec's own cable number wherever a WRITE does not fault: a message is in progress. -/
theorem cable_of_no_writeFault {s : State} (h : s.RegistersLegal) (hF : s.writeFault = none) :
    s.txBuffer.cable = s.params.cable :=
  h.cable fun hA => by simp [State.writeFault, hA] at hF

theorem writeByte {s : State} (h : s.RegistersLegal) (b : Byte) : (s.writeByte b).RegistersLegal := by
  rcases s.writeByte_cases b with ⟨code, -, hw⟩ | ⟨hF, -, hw⟩ | ⟨hF, -, hw⟩ <;> rw [hw]
  · exact h.of_eq rfl rfl rfl rfl
  · refine h.of_counted hF (s.sysexStore_activeType b) (congrArg (· + 1) (s.sysexStore_txIndex b))
      (s.sysexStore_params b) ?_
    rw [s.sysexStore_txBuffer b]
    exact sysexPacket_cable (h.cable_of_no_writeFault hF) _ b
  · exact h.of_counted hF rfl rfl rfl ((setSlot_cable _ _ b).trans (h.cable_of_no_writeFault hF))

theorem flush {s : State} (h : s.RegistersLegal) : s.flush.RegistersLegal := by
  rcases s.flush_cases with ⟨-, he⟩ | ⟨-, he⟩ <;> rw [he] <;> exact h.of_eq rfl rfl rfl rfl

/-- R161: INIT leaves the registers or clears them to their reset values. -/
theorem effect_init {s : State} (h : s.RegistersLegal) : (effect .init s).RegistersLegal := by
  rw [Machine.effect_init]
  split
  · exact h.of_idle rfl rfl rfl
  · exact h.of_eq rfl rfl rfl rfl

theorem effect {s : State} (h : s.RegistersLegal) (i : Instr) : (effect i s).RegistersLegal := by
  rcases lifecycle_or_transmit_or_receive i with rfl | rfl | (⟨ty, rfl⟩ | ⟨b, rfl⟩ | rfl) | hi
  · exact h.effect_init
  · exact h.of_eq rfl rfl rfl rfl
  · rw [effect_beginInstr]
    exact h.beginMessage ty
  · exact h.writeByte b
  · exact h.flush
  · have hkept := effect_keeps_transmitSide hi s
    exact h.of_eq hkept.activeType hkept.txIndex hkept.txBuffer hkept.params

end State.RegistersLegal

/-! ### The statements -/

/-- Settles O39: a step waits, refuses a word, or has an instruction's effect, and each keeps the invariant. -/
theorem stepKeepsRegistersLegal : Obligations.StepKeepsRegistersLegal := by
  intro s t h hstep
  rcases step_eq_next_cases hstep with ⟨-, ⟨-, rfl⟩ | ⟨_, _, _, -, -, rfl⟩ | ⟨_, _, i, -, -, rfl⟩⟩
  · exact h
  · exact h.of_eq rfl rfl rfl rfl
  · exact (h.of_eq (t := s.takeCommand) rfl rfl rfl rfl).effect i

/-- Settles O35, by what the effect of a command of either direction keeps; taking the word touches neither side. -/
theorem directionsShareNoState : Obligations.DirectionsShareNoState := by
  intro i s t h
  obtain ⟨-, rfl⟩ := (exec_eq_next_iff i s t).1 h
  refine ⟨fun hi => ?_, fun hi => ?_⟩
  · obtain ⟨hbuf, hidx, href, hpar, hans⟩ := effect_keeps_receiveSide hi s.takeCommand
    exact ⟨hbuf, hidx, href, hpar, hans⟩
  · obtain ⟨hact, hidx, hbuf, hflt, href, hpar, hans⟩ := effect_keeps_transmitSide hi s.takeCommand
    exact ⟨hact, hidx, hbuf, hflt, href, hpar, hans⟩

/-- Settles O38: waiting changes nothing, a refused word sets `refused` only, and an effect keeps the parameters and
`refused` and appends to the trace. -/
theorem stickyMarksAndParametersStay : Obligations.StickyMarksAndParametersStay := by
  refine ⟨fun s t hstep => ?_, fun i s t h => ?_⟩
  · rcases step_eq_next_cases hstep with ⟨hf, ⟨-, rfl⟩ | ⟨_, _, _, -, -, rfl⟩ | ⟨_, _, i, -, -, rfl⟩⟩
    · exact ⟨rfl, hf, id, [], (List.append_nil _).symm⟩
    · exact ⟨rfl, hf, fun _ => rfl, [], (List.append_nil _).symm⟩
    · exact ⟨effect_params i s.takeCommand, hf, (effect_refused i s.takeCommand).trans,
        effect_extends_trace i s.takeCommand⟩
  · obtain ⟨-, rfl⟩ := (exec_eq_next_iff i s t).1 h
    exact effect_refused i s.takeCommand

/-- Settles O1, field by field from the reset's own lemmas. -/
theorem resetValuesOfEveryField : Obligations.ResetValuesOfEveryField := fun c =>
  ⟨State.resetWith c, rfl, State.resetWith_activeType c, rfl, State.resetWith_txIndex c, State.resetWith_txBuffer c,
    State.resetWith_rxBuffer c, State.resetWith_rxIndex c, State.resetWith_fault c, State.resetWith_refused c,
    State.resetWith_trace c, congrArg Params.cable (State.resetWith_params c)⟩

/-- Settles O2: `State.reset` is the reset with the parameters of Config, whose limit is 3 or more. -/
theorem resetIsLegal : Obligations.ResetIsLegal :=
  ⟨fun c h => ⟨resetWith_registersLegal h, resetWith_wireLegal c⟩,
    resetWith_registersLegal (Nat.le_add_left 3 _), resetWith_wireLegal Config.params⟩

end Sys2Proof.Machine
end

section
/-! What READ and END depend on, and that neither direction disturbs the other (20_memory.md R59, R60 (c);
10_state.md R35). -/

namespace Sys2Proof.Machine

open Statements

/-! ### READ by its answer, R140 -/

theorem State.readByte_of_undelivered {s : State} (h : s.rxIndex ≠ 0) : s.readByte = s.deliver :=
  effect_receive_of_undelivered (.inl rfl) h

theorem State.readByte_of_no_packet {s : State} (h : s.rxIndex = 0) (hans : s.transport.readAnswer = none) :
    s.readByte = s.acceptNone := by
  simp [State.readByte, h, hans]

theorem State.readByte_of_packet {s : State} {p : Packet} (h : s.rxIndex = 0)
    (hans : s.transport.readAnswer = some p) : s.readByte = s.acceptPacket (rxClass p.cin) p := by
  simp [State.readByte, h, hans]

/-- A listed answer does not depend on the calls made before it (R187, log 2). -/
theorem Transport.readAnswer_eq_of_listed {p q : Transport} (h : q.readAnswers = p.readAnswers)
    (hlisted : p.readAnswers ≠ []) : q.readAnswer = p.readAnswer := by
  obtain ⟨a, rest, hp⟩ := List.exists_cons_of_ne_nil hlisted
  simp [Transport.readAnswer, h, hp]

/-! ### What a READ delivers depends on the receive side only, R60 -/

/-- `s` and `t` show a receiver the same: outputs, receive buffer and what is left of it. -/
structure SameDelivery (s t : State) : Prop where
  out : t.out = s.out
  rxBuffer : t.rxBuffer = s.rxBuffer
  rxIndex : t.rxIndex = s.rxIndex

section
variable {s t : State} (hbuf : t.rxBuffer = s.rxBuffer) (hidx : t.rxIndex = s.rxIndex)
include hbuf hidx

theorem deliver_sameDelivery : SameDelivery s.deliver t.deliver where
  out := by simp [hbuf, hidx]
  rxBuffer := hbuf
  rxIndex := congrArg (· - 1) hidx

/-- A payload shorter than the buffer leaves the rest of it as it was, an unrecognised packet all of it. -/
theorem acceptPacket_sameDelivery (c : RxClass) (p : Packet) :
    SameDelivery (s.acceptPacket c p) (t.acceptPacket c p) := by
  cases c with
  | one => exact ⟨rfl, congrArg (fun b : RxBuffer => { b with b0 := p.data1 }) hbuf, rfl⟩
  | two => exact ⟨rfl, congrArg (fun b : RxBuffer => { b with b0 := p.data2, b1 := p.data1 }) hbuf, rfl⟩
  | three => exact ⟨rfl, rfl, rfl⟩
  | unrecognised => exact ⟨rfl, hbuf, hidx⟩

/-- The transport's answer counts only where READ asks for it. -/
theorem readByte_sameDelivery (hans : s.rxIndex = 0 → t.transport.readAnswer = s.transport.readAnswer) :
    SameDelivery s.readByte t.readByte := by
  rcases s.readByte_cases with ⟨hne, hs⟩ | ⟨h0, hr, hs⟩ | ⟨p, h0, hr, hs⟩ <;> rw [hs]
  · rw [State.readByte_of_undelivered (hidx ▸ hne)]
    exact deliver_sameDelivery hbuf hidx
  · rw [State.readByte_of_no_packet (hidx.trans h0) ((hans h0).trans hr)]
    exact ⟨rfl, hbuf, hidx⟩
  · rw [State.readByte_of_packet (hidx.trans h0) ((hans h0).trans hr)]
    exact acceptPacket_sameDelivery hbuf hidx _ p

end

/-! ### END sends the buffer, R104 -/

theorem flush_trace_of_active {s : State} (h : s.activeType ≠ none) :
    s.flush.trace = s.trace ++ [.wr s.txBuffer s.transport.writeAnswer] := by
  rcases s.flush_cases with ⟨hnone, -⟩ | ⟨-, hflush⟩
  · exact absurd hnone h
  · rw [hflush, State.hwWrite_trace]

/-! ### The statements -/

/-- Settles O36: a transmit command keeps everything that decides a READ's delivery, the next answer included where
one is listed or none is asked for; a READ keeps the buffer that END sends, the message in progress and `fault`. -/
theorem neitherDirectionDisturbsTheOther : Obligations.NeitherDirectionDisturbsTheOther := by
  refine ⟨fun i s t u hi ht hfault hsource hu => ?_, fun i s t u hi ht hactive hu => ?_⟩
  · obtain ⟨-, rfl⟩ := (exec_eq_next_iff i s t).1 ht
    obtain ⟨-, rfl⟩ := (exec_eq_next_iff .read s u).1 hu
    have hkept := effect_keeps_receiveSide hi s.takeCommand
    obtain ⟨hout, hbuf, hidx⟩ := readByte_sameDelivery
      (s := s.takeCommand) (t := (effect i s.takeCommand).takeCommand) hkept.rxBuffer hkept.rxIndex
      fun h0 => Transport.readAnswer_eq_of_listed hkept.readAnswers (hsource.resolve_left (not_not_intro h0))
    exact ⟨_, exec_ok .read hfault, hout, hbuf, hidx⟩
  · obtain ⟨hf, rfl⟩ := (exec_eq_next_iff i s t).1 ht
    obtain ⟨-, rfl⟩ := (exec_eq_next_iff .endMessage s u).1 hu
    have hkept := effect_keeps_transmitSide hi s.takeCommand
    have hsent := flush_trace_of_active (s := (effect i s.takeCommand).takeCommand) (hkept.activeType ▸ hactive)
    rw [State.takeCommand_txBuffer, hkept.txBuffer] at hsent
    exact ⟨_, _, _, exec_ok .endMessage (hkept.fault.trans hf), flush_trace_of_active hactive, hsent⟩

/-- Settles O12: with no word issued nothing stands at the port, and the step is the waiting one. -/
theorem stepWithoutCommandWaits : Obligations.StepWithoutCommandWaits := by
  intro s hf hc
  have hidle : s.fetch = .idle := by simp [State.fetch, hc]
  simp [step, State.stepWith, hf, hidle]

end Sys2Proof.Machine
end

section
/-! The codec's two formats: what each word decodes to, and what it encodes from (30_encoding.md R70 to R83). -/

namespace Sys2Proof

open Statements

/-! ### Packet words, R71 and R76 -/

/-- A packet is made of its header's two nibbles and its data bytes, R71. -/
theorem mkPacket_of_fields (p : Packet) : mkPacket p.cable p.cin p.data1 p.data2 p.data3 = p := by
  simp [mkPacket, Packet.cable, Packet.cin, header_of_nibbles]

/-- R76: the row a packet belongs to encodes to that packet's word. -/
theorem encode_decodePacket (p : Packet) : encode (decodePacket p) = .pkt p.toWord := by
  have hrow : ∀ cin : Nibble, p.cin = cin →
      Encoded.pkt (mkPacket p.cable cin p.data1 p.data2 p.data3).toWord = .pkt p.toWord := by
    rintro cin rfl
    rw [mkPacket_of_fields]
  have hlt := p.cin.isLt
  unfold decodePacket
  interval_cases hcin : p.cin.toNat <;> exact hrow _ (BitVec.eq_of_toNat_eq hcin)

/-! ### Command words, R80 to R83 -/

/-- R83 (4). -/
theorem noOperand_eq_ok_iff {i j : Instr} {arg : Byte} : noOperand i arg = .ok j ↔ arg = 0x00 ∧ i = j := by
  unfold noOperand
  split <;> simp_all

/-- R83 (3). -/
theorem decodeBegin_eq_ok_iff {arg : Byte} {i : Instr} :
    decodeBegin arg = .ok i ↔ ∃ t, MessageType.ofCode arg = some t ∧ t.beginInstr = i := by
  unfold decodeBegin
  cases MessageType.ofCode arg <;> simp

/-- A command word with a meaning has `RSV` 0, so `OP` and `ARG` are all it says, and both are the encoder's. -/
theorem encode_of_decodeCmd {w : CmdWord} {i : Instr} (h : decodeCmd w = .ok i) : encode i = .cmd w := by
  unfold decodeCmd at h
  split at h
  case isFalse => cases h
  case isTrue hrsv =>
    have hword : ∀ {op : Nibble} {arg : Byte}, (cmdOp w).toNat = op.toNat → cmdArg w = arg → mkCmd op arg = w := by
      rintro op _ hop rfl
      rw [← BitVec.eq_of_toNat_eq hop, mkCmd_of_fields w hrsv]
    have hbare : ∀ {op : Nibble} {j : Instr}, (cmdOp w).toNat = op.toNat → noOperand j (cmdArg w) = .ok i →
        encode j = .cmd (mkCmd op 0x00) → encode i = .cmd w := by
      intro op j hop hj hej
      obtain ⟨harg, rfl⟩ := noOperand_eq_ok_iff.1 hj
      rw [hej, hword hop harg]
    split at h
    next hop => exact hbare (op := 0x1) hop h rfl
    next hop => exact hbare (op := 0x2) hop h rfl
    next hop =>
      obtain ⟨t, ht, rfl⟩ := decodeBegin_eq_ok_iff.1 h
      rw [encode_beginInstr, hword (op := 0x3) hop (MessageType.code_of_ofCode ht).symm]
    next hop =>
      obtain rfl : Instr.write (cmdArg w) = i := by simpa using h
      exact congrArg _ (hword (op := 0x4) hop rfl)
    next hop => exact hbare (op := 0x5) hop h rfl
    next hop => exact hbare (op := 0x6) hop h rfl
    next => cases h

theorem beginCodes_eq : beginCodes = MessageType.all.map fun t => (t.code.toNat, t.beginInstr) := rfl

theorem lookup_map_pair {α β κ : Type} [BEq κ] (f : α → κ) (g : α → β) (k : κ) (l : List α) :
    (l.map fun a => (f a, g a)).lookup k = (l.find? fun a => k == f a).map g := by
  induction l with
  | nil => rfl
  | cons a l ih =>
    rw [List.map_cons, List.lookup_cons, List.find?_cons]
    cases k == f a with
    | true => rfl
    | false => exact ih

/-- R75: the table of codes as numbers names the type that `ofCode` finds. -/
theorem beginCodes_lookup (b : Byte) :
    beginCodes.lookup b.toNat = (MessageType.ofCode b).map MessageType.beginInstr := by
  have hcode : (fun t : MessageType => b.toNat == t.code.toNat) = fun t => t.code == b := by
    funext t
    rw [Bool.eq_iff_iff, beq_iff_eq, beq_iff_eq, BitVec.toNat_inj, eq_comm]
  rw [beginCodes_eq, lookup_map_pair, hcode, MessageType.ofCode]

/-- R83 (4), on `ARG` as a number. -/
theorem noOperand_eq (i : Instr) (arg : Byte) :
    noOperand i arg = if arg.toNat ≠ 0 then .error .nonzeroArg else .ok i := by
  simp only [noOperand, ← BitVec.toNat_inj, ne_eq, ite_not]
  rfl

/-! ### The statements -/

/-- Settles O5: a command's word by its kind; a packet's word is the packet's own, whose row the decoder gives back. -/
theorem decodeOfEncodeIsTheInstruction : Obligations.DecodeOfEncodeIsTheInstruction := by
  intro i _
  rcases Machine.instr_kinds i with rfl | rfl | ⟨t, rfl⟩ | ⟨b, rfl⟩ | rfl | rfl | ⟨p, rfl⟩
  · decide
  · decide
  · rw [encode_beginInstr]
    exact decodeCmd_begin t
  · exact decodeCmd_write b
  · decide
  · decide
  · rw [encode_decodePacket]
    show Except.ok (decodePacket (Packet.ofWord p.toWord)) = _
    rw [Packet.ofWord_toWord]

/-- Settles O6: a command word is rebuilt from its fields, a packet word from its packet. -/
theorem encodeOfDecodeIsTheWord : Obligations.EncodeOfDecodeIsTheWord := by
  intro e i h
  cases e with
  | cmd w => exact encode_of_decodeCmd h
  | pkt w =>
    obtain rfl : decodePacket (Packet.ofWord w) = i := by simpa [decode] using h
    rw [encode_decodePacket, Packet.toWord_ofWord]

/-- Settles O7, by `RSV` and then by each value of `OP`; only BEGIN's needs more, the table of its codes. -/
theorem commandWordsDecodeOrAreRefused : Obligations.CommandWordsDecodeOrAreRefused := by
  rintro w _ _ _ rfl rfl rfl
  rw [← cmdRsv_toNat, ← cmdOp_toNat, ← cmdArg_toNat]
  have hrsv : cmdRsv w = 0x0 ↔ (cmdRsv w).toNat = 0 := BitVec.toNat_inj.symm
  unfold decodeCmd
  by_cases hr : (cmdRsv w).toNat = 0
  · have hlt := (cmdOp w).isLt
    rw [if_pos (hrsv.2 hr), if_neg (not_not_intro hr), beginCodes_lookup, decodeBegin]
    simp only [noOperand_eq]
    interval_cases hop : (cmdOp w).toNat <;> simp
    cases MessageType.ofCode (cmdArg w) <;> rfl
  · rw [if_neg (mt hrsv.1 hr), if_pos hr]

/-- Settles O4, by decoding each word. -/
theorem specWordsDecode : Obligations.SpecWordsDecode := by
  unfold Obligations.SpecWordsDecode
  decide

/-- Settles O8, row by row. -/
theorem transmitCinsAreReceivedAtTheirLength : Obligations.TransmitCinsAreReceivedAtTheirLength := by
  unfold Obligations.TransmitCinsAreReceivedAtTheirLength
  decide

end Sys2Proof
end

section
/-! What is handed to the transport: every packet carries the codec's own cable number and a CIN that is received
(30_encoding.md R73, R77 to R79). -/

namespace Sys2Proof.Machine

open Statements

/-! ### Packets with a header of the codec's own, R73 and R79 -/

/-- The header alone decides whether a packet may be sent. -/
theorem sendable_of_event_eq {c : Params} {p q : Packet} (h : p.event = q.event) (hq : Sendable c q) : Sendable c p := by
  have hcin : p.cin = q.cin := congrArg (BitVec.extractLsb' 0 4) h
  exact ⟨(cable_eq_of_event_eq h).trans hq.1, hcin ▸ hq.2⟩

theorem sendable_of_event_header {c : Params} {p : Packet} {cin : Nibble} (h : p.event = header c.cable cin)
    (hcin : rxClass cin ≠ .unrecognised) : Sendable c p := by
  have hp : p.cin = cin := (congrArg (BitVec.extractLsb' 0 4) h).trans (header_cin_bits c.cable cin)
  exact ⟨cable_of_event_header h, hp.symm ▸ hcin⟩

/-- R77: no type is sent under a reserved CIN. -/
theorem rxClass_cinOf_recognised (ty : MessageType) : rxClass ty.cinOf ≠ .unrecognised := by
  cases ty <;> decide

theorem beginPacket_sendable (c : Params) (ty : MessageType) (k : Packet) : Sendable c (beginPacket c ty k) :=
  sendable_of_event_header (beginPacket_event c ty k) (rxClass_cinOf_recognised ty)

/-- A sysex byte rewrites the header with one of the four sysex CINs or leaves it (R78, R121, R122). -/
theorem sysexPacket_sendable {c : Params} {k : Packet} (h : Sendable c k) (p : Nat) (b : Byte) :
    Sendable c (sysexPacket c p b k) := by
  have hsysex : ∀ cin ∈ [0x4#4, 0x5#4, 0x6#4, 0x7#4], rxClass cin ≠ .unrecognised := by decide
  rcases sysexPacket_event c p b k with he | ⟨cin, hmem, he⟩
  · exact sendable_of_event_eq he h
  · exact sendable_of_event_header he (hsysex cin hmem)

/-- A READ hands no packet to the transport, R140. -/
theorem effect_receive_sends_nothing {i : Instr} (hi : isReceive i) (s : State) :
    ∃ es, (effect i s).trace = s.trace ++ es ∧ ∀ p ok, Event.wr p ok ∉ es := by
  rcases hi with rfl | ⟨p, rfl⟩
  · change ∃ es, s.readByte.trace = s.trace ++ es ∧ _
    rcases s.readByte_cases with ⟨-, h⟩ | ⟨-, -, h⟩ | ⟨p, -, -, h⟩ <;> rw [h]
    · exact ⟨[], by simp⟩
    · exact ⟨[.rd none], by simp⟩
    · exact ⟨[.rd (some p)], by simp⟩
  · rw [effect_decodePacket]
    rcases s.receivePacket_cases (rxClass p.cin) p with ⟨-, h⟩ | ⟨-, h⟩ <;> rw [h]
    · exact ⟨[], by simp⟩
    · exact ⟨[.rd (some p)], by simp⟩

/-! ### The wire invariant, R79 -/

namespace State.WireLegal

/-- The invariant is kept where the buffer and every packet sent since are sendable. -/
theorem of_extended {s t : State} (h : s.WireLegal) (es : List Event) (hT : t.trace = s.trace ++ es)
    (hes : ∀ p ok, Event.wr p ok ∈ es → Sendable s.params p)
    (hB : t.activeType ≠ none → Sendable s.params t.txBuffer) (hP : t.params = s.params) : t.WireLegal where
  buffer hA := hP ▸ hB hA
  sent p ok hmem := by
    rw [hT, List.mem_append] at hmem
    rw [hP]
    exact hmem.elim (h.sent p ok) (hes p ok)

theorem of_unsent {s t : State} (h : s.WireLegal) (hT : t.trace = s.trace)
    (hB : t.activeType ≠ none → Sendable s.params t.txBuffer) (hP : t.params = s.params) : t.WireLegal :=
  h.of_extended [] (by simp [hT]) (by simp) hB hP

theorem hwWrite {s : State} (h : s.WireLegal) (hA : s.activeType ≠ none) : s.hwWrite.WireLegal := by
  refine h.of_extended [.wr s.txBuffer s.transport.writeAnswer] rfl (fun p ok hmem => ?_) h.buffer rfl
  obtain ⟨rfl, -⟩ : p = s.txBuffer ∧ ok = s.transport.writeAnswer := by simpa using hmem
  exact h.buffer hA

theorem beginMessage {s : State} (h : s.WireLegal) (ty : MessageType) : (s.beginMessage ty).WireLegal :=
  h.of_unsent rfl (fun _ => beginPacket_sendable s.params ty s.txBuffer) rfl

theorem sysexStore {s : State} (h : s.WireLegal) (hA : s.activeType ≠ none) (b : Byte) :
    (s.sysexStore b).WireLegal := by
  have hstored : State.WireLegal { s with txBuffer := sysexPacket s.params (s.txIndex % 3) b s.txBuffer } :=
    h.of_unsent rfl (fun _ => sysexPacket_sendable (h.buffer hA) _ b) rfl
  rcases s.sysexStore_cases b with ⟨-, -, hs⟩ | ⟨-, hs⟩ <;> rw [hs]
  · exact hstored.hwWrite hA
  · exact hstored.of_unsent rfl hstored.buffer rfl

theorem nonSysexStore {s : State} (h : s.WireLegal) (b : Byte) : (s.nonSysexStore b).WireLegal :=
  h.of_unsent rfl (fun hA => sendable_of_event_eq (setSlot_event _ _ b) (h.buffer hA)) rfl

theorem writeByte {s : State} (h : s.WireLegal) (b : Byte) : (s.writeByte b).WireLegal := by
  rcases s.writeByte_cases b with ⟨code, -, hw⟩ | ⟨-, hsys, hw⟩ | ⟨-, -, hw⟩ <;> rw [hw]
  · exact h.of_unsent rfl h.buffer rfl
  · have hstored := h.sysexStore (by simp [hsys]) b
    exact hstored.of_unsent rfl hstored.buffer rfl
  · have hstored := h.nonSysexStore b
    exact hstored.of_unsent rfl hstored.buffer rfl

theorem flush {s : State} (h : s.WireLegal) : s.flush.WireLegal := by
  rcases s.flush_cases with ⟨-, he⟩ | ⟨hA, he⟩ <;> rw [he]
  · exact h.of_unsent rfl h.buffer rfl
  · exact h.hwWrite hA

theorem hwInit {s : State} (h : s.WireLegal) : s.hwInit.WireLegal :=
  h.of_extended [.init _] rfl (by simp) h.buffer rfl

theorem hwDeInit {s : State} (h : s.WireLegal) : s.hwDeInit.WireLegal :=
  h.of_extended [.deInit _] rfl (by simp) h.buffer rfl

theorem clearCodec {s : State} (h : s.WireLegal) : s.clearCodec.WireLegal :=
  h.of_unsent rfl (by simp) rfl

theorem effect {s : State} (h : s.WireLegal) (i : Instr) : (effect i s).WireLegal := by
  rcases lifecycle_or_transmit_or_receive i with rfl | rfl | (⟨ty, rfl⟩ | ⟨b, rfl⟩ | rfl) | hi
  · rw [effect_init]
    split
    · exact h.clearCodec.hwInit
    · exact h.hwInit
  · exact h.hwDeInit
  · rw [effect_beginInstr]
    exact h.beginMessage ty
  · exact h.writeByte b
  · exact h.flush
  · have hkept := effect_keeps_transmitSide hi s
    obtain ⟨es, hT, hes⟩ := effect_receive_sends_nothing hi s
    refine h.of_extended es hT (fun p ok hmem => absurd hmem (hes p ok)) ?_ hkept.params
    rw [hkept.activeType, hkept.txBuffer]
    exact h.buffer

end State.WireLegal

/-! ### The statement -/

/-- Settles O40: a step waits, refuses a word, or has an instruction's effect, and each keeps the invariant. -/
theorem stepKeepsWireLegal : Obligations.StepKeepsWireLegal := by
  intro s t h hstep
  rcases step_eq_next_cases hstep with ⟨-, ⟨-, rfl⟩ | ⟨_, _, _, -, -, rfl⟩ | ⟨_, _, i, -, -, rfl⟩⟩
  · exact h
  · exact h.of_unsent rfl h.buffer rfl
  · exact (h.of_unsent (t := s.takeCommand) rfl h.buffer rfl).effect i

end Sys2Proof.Machine
end

section
/-! How a word reaches the codec: a table word placed at its port (log 10), and a word it refuses (30_encoding.md
R84). -/

namespace Sys2Proof.Machine

/-! ### A READ and the packet that answers it, R140 -/

theorem State.readByte_eq_receivePacket {s : State} {p : Packet} (h : s.rxIndex = 0)
    (hans : s.transport.readAnswer = some p) : s.readByte = s.receivePacket (rxClass p.cin) p := by
  rw [State.readByte_of_packet h hans, State.receivePacket, if_pos h]

/-- READ is the row of the packet it is answered with (log 9). -/
theorem exec_read_eq_exec_decodePacket {s : State} {p : Packet} (h : s.rxIndex = 0)
    (hans : s.transport.readAnswer = some p) : exec .read s = exec (decodePacket p) s := by
  have heffect : effect .read s.takeCommand = effect (decodePacket p) s.takeCommand := by
    rw [effect_decodePacket]
    exact State.readByte_eq_receivePacket h hans
  rw [exec_eq_perform, exec_eq_perform, State.perform, State.perform, heffect]

/-! ### Placing a word of the opcode table, log 10 -/

theorem decodeTableWord_eq_some_cases {nbits w : Nat} {i : Instr} (h : decodeTableWord nbits w = some i) :
    (nbits = 32 ∧ i = decodePacket (Packet.ofWord (BitVec.ofNat 32 w))) ∨
    (nbits = 16 ∧ decodeCmd (BitVec.ofNat 16 w) = .ok i) := by
  unfold decodeTableWord at h
  split at h
  next hn => exact .inl ⟨hn, (Option.some.inj h).symm⟩
  next =>
    split at h
    next hn =>
      refine .inr ⟨hn, ?_⟩
      cases hd : decodeCmd (BitVec.ofNat 16 w) with
      | ok j => rw [hd] at h; exact congrArg _ (Option.some.inj h)
      | error e => rw [hd] at h; cases h
    next => cases h

theorem decodeCmd_read : decodeCmd (mkCmd 0x6 0x00) = .ok .read := by decide

/-- The packet offered is fetched by the READ issued with it. -/
theorem step_offerPacket {s : State} (hf : s.fault = .none) (p : Packet) :
    step (s.offerPacket p) = exec (decodePacket p) (s.offerPacket p) :=
  (step_command (s := s.offerPacket p) hf rfl decodeCmd_read).trans
    (exec_read_eq_exec_decodePacket (s := s.offerPacket p) rfl rfl)

theorem step_withFetchWord {s : State} {nbits w : Nat} {i : Instr} (hf : s.fault = .none)
    (hd : decodeTableWord nbits w = some i) : step (s.withFetchWord nbits w) = exec i (s.withFetchWord nbits w) := by
  rcases decodeTableWord_eq_some_cases hd with ⟨rfl, rfl⟩ | ⟨rfl, hcmd⟩
  · exact step_offerPacket hf _
  · exact step_command (s := s.issue _) hf rfl hcmd

theorem withFetchWord_fault (s : State) (nbits w : Nat) : (s.withFetchWord nbits w).fault = s.fault := by
  unfold State.withFetchWord State.placeTableWord
  split <;> rfl

theorem withFetchWord_commands_tail (s : State) (nbits w : Nat) :
    (s.withFetchWord nbits w).commands.tail = s.commands := by
  unfold State.withFetchWord State.placeTableWord
  split <;> rfl

/-- Settles O11: the step at the placed word is the row's meaning, and taking the word leaves the stream of before. -/
theorem placedTableWordIsRunNext : Obligations.PlacedTableWordIsRunNext := by
  intro s nbits w i hf hd
  have hexec := exec_ok i ((withFetchWord_fault s nbits w).trans hf)
  exact ⟨_, (step_withFetchWord hf hd).trans hexec, hexec,
    (effect_commands i _).trans (withFetchWord_commands_tail s nbits w)⟩

/-! ### WRITE and END by their case, R102 and R104 -/

theorem State.writeByte_of_fault {s : State} {code : FaultCode} (b : Byte) (hF : s.writeFault = some code) :
    s.writeByte b = s.raiseFault code := by
  simp [State.writeByte, hF]

theorem State.writeByte_of_sysEx {s : State} (b : Byte) (hF : s.writeFault = none) (hA : s.activeType = some .sysEx) :
    s.writeByte b = { s.sysexStore b with txIndex := s.txIndex + 1 } := by
  simp [State.writeByte, hF, hA]

theorem State.writeByte_of_not_sysEx {s : State} (b : Byte) (hF : s.writeFault = none)
    (hA : s.activeType ≠ some .sysEx) : s.writeByte b = { s.nonSysexStore b with txIndex := s.txIndex + 1 } := by
  simp [State.writeByte, hF, hA]

theorem State.flush_of_idle {s : State} (h : s.activeType = none) : s.flush = s.raiseFault .noTransmission := by
  simp [State.flush, h]

theorem State.flush_of_active {s : State} (h : s.activeType ≠ none) : s.flush = s.hwWrite :=
  s.flush_cases.elim (fun hidle => absurd hidle.1 h) And.right

/-! ### Nothing reads `refused`, R84 -/

/-- The codec with `refused` set, R31. -/
def State.marked (s : State) : State := { s with refused := true }

section
variable (s : State)

theorem marked_effect_init : effect .init s.marked = (effect .init s).marked := by
  rw [effect_init, effect_init, apply_ite State.hwInit, apply_ite State.hwInit, apply_ite State.marked]
  rfl

theorem marked_sysexStore (b : Byte) : s.marked.sysexStore b = (s.sysexStore b).marked := by
  simp only [State.sysexStore, apply_ite State.marked]
  rfl

theorem marked_writeByte (b : Byte) : s.marked.writeByte b = (s.writeByte b).marked := by
  rcases s.writeByte_cases b with ⟨code, hF, h⟩ | ⟨hF, hA, h⟩ | ⟨hF, hA, h⟩ <;> rw [h]
  · exact State.writeByte_of_fault b hF
  · rw [State.writeByte_of_sysEx (s := s.marked) b hF hA, marked_sysexStore, State.sysexStore_txIndex]
    rfl
  · exact State.writeByte_of_not_sysEx b hF hA

theorem marked_flush : s.marked.flush = s.flush.marked := by
  rcases s.flush_cases with ⟨hA, h⟩ | ⟨hA, h⟩ <;> rw [h]
  · exact State.flush_of_idle hA
  · exact State.flush_of_active hA

theorem marked_acceptPacket (c : RxClass) (p : Packet) : s.marked.acceptPacket c p = (s.acceptPacket c p).marked := by
  cases c <;> rfl

theorem marked_readByte : s.marked.readByte = s.readByte.marked := by
  rcases s.readByte_cases with ⟨hne, h⟩ | ⟨h0, hr, h⟩ | ⟨p, h0, hr, h⟩ <;> rw [h]
  · exact State.readByte_of_undelivered hne
  · exact State.readByte_of_no_packet h0 hr
  · rw [← marked_acceptPacket]
    exact State.readByte_of_packet h0 hr

theorem marked_receivePacket (c : RxClass) (p : Packet) :
    s.marked.receivePacket c p = (s.receivePacket c p).marked := by
  rw [State.receivePacket, State.receivePacket, marked_acceptPacket, apply_ite State.marked]
  rfl

/-- R84: later commands are performed as usual. -/
theorem marked_effect (i : Instr) : effect i s.marked = (effect i s).marked := by
  rcases instr_kinds i with rfl | rfl | ⟨t, rfl⟩ | ⟨b, rfl⟩ | rfl | rfl | ⟨p, rfl⟩
  · exact marked_effect_init s
  · rfl
  · rw [effect_beginInstr]; rfl
  · exact marked_writeByte s b
  · exact marked_flush s
  · exact marked_readByte s
  · rw [effect_decodePacket]
    exact marked_receivePacket s _ p

end

theorem step_marked {s t : State} (h : step s = .next t) : step s.marked = .next t.marked := by
  rcases step_eq_next_cases h with ⟨hf, ⟨hc, rfl⟩ | ⟨w, rest, e, hc, hd, rfl⟩ | ⟨w, rest, i, hc, hd, rfl⟩⟩
  · exact stepWithoutCommandWaits _ hf hc
  · exact step_refused (s := s.marked) hf hc hd
  · rw [step_command (s := s.marked) hf hc hd, exec_ok i (s := s.marked) hf, ← marked_effect]
    rfl

/-- Settles O13: the refusal is one update of the state, and no step clears or reads `refused`. -/
theorem refusedWordOnlySetsRefused : Obligations.RefusedWordOnlySetsRefused := by
  refine ⟨fun s w rest e hf hc hd => ?_, fun s t h => ?_, fun s t h => step_marked h⟩
  · rw [step_refused hf hc hd]
    simp [State.refuseWord, State.returns, State.takeCommand, hc]
  · obtain ⟨-, -, hsticky, -⟩ := stickyMarksAndParametersStay.1 s t h
    exact hsticky

end Sys2Proof.Machine
end

section
/-! The pseudo-instructions expand to well-formed command streams (30_encoding.md R86; 70_reset_and_hazards.md
R212). -/

namespace Sys2Proof

theorem wellFormedStream_iff {c : Params} {is : List Instr} :
    wellFormedStream c is = true ↔ StreamPhase.run c .between is = some .between :=
  beq_iff_eq

/-! ### Runs through the grammar -/

namespace StreamPhase

variable {c : Params}

theorem run_cons {p q : StreamPhase} {i : Instr} (h : p.next c i = some q) (is : List Instr) :
    run c p (i :: is) = run c q is := by
  simp [run, h]

/-- A BEGIN is none of the commands that may stand anywhere. -/
theorem next_beginInstr (p : StreamPhase) (t : MessageType) :
    p.next c t.beginInstr = p.transmit c.txIndexLimit t.beginInstr := by
  cases t <;> rfl

theorem next_begin_of_fixed {t : MessageType} {n : Nat} (h : t.lenOf = some n) :
    next c .between t.beginInstr = some (.fixed n) := by
  simp [next_beginInstr, transmit, Instr.beginType_beginInstr, h]

theorem next_begin_of_variable {t : MessageType} (h : t.lenOf = none) :
    next c .between t.beginInstr = some .sysexStart := by
  simp [next_beginInstr, transmit, Instr.beginType_beginInstr, h]

theorem next_sysexBody_of_not_stop (n : Nat) {b : Byte} (h : b ≠ sysexStopByte) :
    next c (.sysexBody n) (.write b) = some (.sysexBody (n + 1)) := by
  simp [next, transmit, h]

theorem next_sysexBody_stop {n : Nat} (h : n + 1 ≤ c.txIndexLimit) :
    next c (.sysexBody n) (.write sysexStopByte) = some .sysexEnd := by
  simp [next, transmit, h]

/-- The bytes of a fixed length leave END as the next command. -/
theorem run_fixed_writes (bytes : List Byte) (rest : List Instr) :
    run c (.fixed bytes.length) (bytes.map Instr.write ++ rest) = run c (.fixed 0) rest := by
  induction bytes with
  | nil => rfl
  | cons b bytes ih => exact (run_cons rfl _).trans ih

theorem run_sysexBody_writes {body : List Byte} (h : ∀ b ∈ body, b ≠ sysexStopByte) (n : Nat) (rest : List Instr) :
    run c (.sysexBody n) (body.map Instr.write ++ rest) = run c (.sysexBody (n + body.length)) rest := by
  induction body generalizing n with
  | nil => rfl
  | cons b body ih =>
    obtain ⟨hb, hbody⟩ := List.forall_mem_cons.1 h
    rw [List.length_cons, Nat.add_comm body.length, ← Nat.add_assoc]
    exact (run_cons (next_sysexBody_of_not_stop n hb) _).trans (ih hbody (n + 1))

theorem run_reads (p : StreamPhase) (n : Nat) : run c p (List.replicate n .read) = some p := by
  induction n with
  | zero => rfl
  | succ n ih => exact (run_cons rfl _).trans ih

/-! ### The expansions, R86 -/

theorem run_send {t : MessageType} {bytes : List Byte} (h : t.lenOf = some bytes.length) :
    run c .between (Pseudo.send t bytes).expand = some .between :=
  (run_cons (next_begin_of_fixed h) _).trans (run_fixed_writes bytes [.endMessage])

theorem run_sysex {body : List Byte} (h : ∀ b ∈ body, b ≠ sysexStopByte) (hroom : body.length + 2 ≤ c.txIndexLimit) :
    run c .between (Pseudo.sysex body).expand = some .between := by
  have hexpand : (Pseudo.sysex body).expand = MessageType.beginInstr .sysEx :: .write sysexStartByte ::
      (body.map Instr.write ++ [.write sysexStopByte, .endMessage]) := by
    simp [Pseudo.expand, sysexStream, MessageType.beginInstr]
  have hstop : next c (.sysexBody (1 + body.length)) (.write sysexStopByte) = some .sysexEnd :=
    next_sysexBody_stop (by omega)
  calc run c .between (Pseudo.sysex body).expand
    _ = run c .sysexStart (.write sysexStartByte :: (body.map Instr.write ++ [.write sysexStopByte, .endMessage])) := by
      rw [hexpand]
      exact run_cons (next_begin_of_variable rfl) _
    _ = run c (.sysexBody 1) (body.map Instr.write ++ [.write sysexStopByte, .endMessage]) := run_cons rfl _
    _ = run c (.sysexBody (1 + body.length)) [.write sysexStopByte, .endMessage] := run_sysexBody_writes h 1 _
    _ = run c .sysexEnd [.endMessage] := run_cons hstop _
    _ = some .between := rfl

end StreamPhase

/-! ### Their command words, R80 -/

theorem cmdWord_beginInstr (t : MessageType) : t.beginInstr.cmdWord = some (mkCmd 0x3 t.code) := by
  rw [Instr.cmdWord, encode_beginInstr]

theorem cmdWord_isSome_of_mem_message (t : MessageType) (bytes : List Byte) :
    ∀ i ∈ t.beginInstr :: bytes.map Instr.write ++ [.endMessage], i.cmdWord.isSome = true := by
  intro i hi
  simp only [List.cons_append, List.mem_cons, List.mem_append, List.mem_map, List.not_mem_nil, or_false] at hi
  rcases hi with rfl | ⟨b, -, rfl⟩ | rfl
  · rw [cmdWord_beginInstr]; rfl
  · rfl
  · rfl

/-! ### The statement -/

/-- Settles O47, form by form: SEND and SYSEX expand to one whole message, RECV to READs only. -/
theorem pseudoInstructionsExpandWellFormed : Obligations.PseudoInstructionsExpandWellFormed := by
  intro c q hq hroom
  rw [wellFormedStream_iff]
  cases q with
  | send t bytes => exact ⟨StreamPhase.run_send (by simpa [Pseudo.wf] using hq), cmdWord_isSome_of_mem_message t bytes⟩
  | sysex body =>
    exact ⟨StreamPhase.run_sysex (by simpa [Pseudo.wf] using hq) (hroom body rfl),
      cmdWord_isSome_of_mem_message .sysEx (sysexStream body)⟩
  | recv n =>
    refine ⟨StreamPhase.run_reads .between n, fun i hi => ?_⟩
    rw [List.eq_of_mem_replicate hi]
    rfl

end Sys2Proof
end

section
/-! BEGIN, the non-sysex WRITE and END, one command at a time (40_transmit.md R100 to R104). -/

namespace Sys2Proof.Machine

open Statements

/-! ### BEGIN, R100 -/

/-- The rows of R75 and R80 are the model's own tables, type by type. -/
theorem beginRows_eq :
    beginRows = MessageType.all.map fun t => (t.beginInstr, t, mkCmd 0x3 t.code, t.cinOf) := by
  decide

theorem mem_beginRows_iff {i : Instr} {ty : MessageType} {w : CmdWord} {cin : Nibble} :
    (i, ty, w, cin) ∈ beginRows ↔ i = ty.beginInstr ∧ w = mkCmd 0x3 ty.code ∧ cin = ty.cinOf := by
  have hall : ty ∈ MessageType.all := by cases ty <;> decide
  rw [beginRows_eq, List.mem_map]
  constructor
  · rintro ⟨t, -, ht⟩
    obtain ⟨rfl, rfl, rfl, rfl⟩ := by simpa using ht
    exact ⟨rfl, rfl, rfl⟩
  · rintro ⟨rfl, rfl, rfl⟩
    exact ⟨ty, hall, rfl⟩

/-- R100: the header is written, each data byte is cleared or kept. -/
theorem beginPacket_eq (c : Params) (ty : MessageType) (k : Packet) :
    beginPacket c ty k =
      { event := header c.cable ty.cinOf
        data1 := if c.beginClearsData then 0x00 else k.data1
        data2 := if c.beginClearsData then 0x00 else k.data2
        data3 := if c.beginClearsData then 0x00 else k.data3 } := by
  unfold beginPacket
  split <;> rfl

theorem exec_beginInstr (ty : MessageType) {s : State} (hf : s.fault = .none) :
    exec ty.beginInstr s = .next (s.takeCommand.beginMessage ty) := by
  rw [exec_ok _ hf, effect_beginInstr]

/-! ### The non-sysex WRITE, R102 and R103 -/

/-- R102: a byte that has a slot, below the limit, raises no fault. -/
theorem writeFault_eq_none {s : State} {t : MessageType} (hA : s.activeType = some t) (hslot : s.txIndex < 3)
    (hlimit : s.txIndex ≠ s.params.txIndexLimit) : s.writeFault = none := by
  simp [State.writeFault, hA, hlimit, Nat.not_le.2 hslot]

theorem exec_write_of_not_sysEx {s : State} {t : MessageType} (b : Byte) (hf : s.fault = .none)
    (hA : s.activeType = some t) (hns : t ≠ .sysEx) (hslot : s.txIndex < 3)
    (hlimit : s.txIndex ≠ s.params.txIndexLimit) :
    exec (.write b) s = .next
      { s with
        txBuffer := s.txBuffer.setSlot s.txIndex b
        txIndex := s.txIndex + 1
        out := some ⟨true, none⟩
        commands := s.commands.tail } := by
  have hF : s.takeCommand.writeFault = none := writeFault_eq_none (s := s.takeCommand) hA hslot hlimit
  have hA' : s.takeCommand.activeType ≠ some .sysEx := by simpa [hA] using hns
  rw [exec_ok _ hf]
  exact congrArg _ (State.writeByte_of_not_sysEx b hF hA')

theorem setSlot_eq_ite (k : Packet) {n : Nat} (h : n < 3) (b : Byte) :
    k.setSlot n b =
      if n = 0 then { k with data1 := b } else if n = 1 then { k with data2 := b } else { k with data3 := b } := by
  interval_cases n <;> rfl

/-! ### END, R104 -/

theorem exec_endMessage_of_active {s : State} (hf : s.fault = .none) (hA : s.activeType ≠ none) :
    exec .endMessage s = .next s.takeCommand.hwWrite := by
  rw [exec_ok _ hf]
  exact congrArg _ (State.flush_of_active (s := s.takeCommand) hA)

theorem exec_endMessage_of_idle {s : State} (hf : s.fault = .none) (hA : s.activeType = none) :
    exec .endMessage s = .next (s.takeCommand.raiseFault .noTransmission) := by
  rw [exec_ok _ hf]
  exact congrArg _ (State.flush_of_idle (s := s.takeCommand) hA)

/-! ### The statements -/

/-- Settles O18: a row is a type's own, so one argument serves all eighteen. -/
theorem beginStartsAMessage : Obligations.BeginStartsAMessage := by
  intro i ty w cin hrow
  obtain ⟨rfl, rfl, rfl⟩ := mem_beginRows_iff.1 hrow
  refine ⟨decodeCmd_begin ty, fun s hf => ?_⟩
  rw [exec_beginInstr ty hf, State.beginMessage, State.takeCommand_params, State.takeCommand_txBuffer, beginPacket_eq]
  rfl

/-- Settles O19: below three and off the limit the WRITE faults nowhere, and its slot is `txIndex`. -/
theorem writeStoresANonSysexByte : Obligations.WriteStoresANonSysexByte := by
  intro s b t hf hA hns hslot hlimit
  rw [exec_write_of_not_sysEx b hf hA hns hslot hlimit, setSlot_eq_ite _ hslot]

/-- Settles O22: END sends the buffer where a message is in progress and faults where none is. -/
theorem endSendsTheBuffer : Obligations.EndSendsTheBuffer :=
  ⟨by decide, fun _ hf => ⟨exec_endMessage_of_active hf, exec_endMessage_of_idle hf⟩⟩

end Sys2Proof.Machine
end

section
/-! A whole message of a fixed length: BEGIN, its WRITEs and END send one packet (40_transmit.md R105, R106). -/

namespace Sys2Proof.Machine

/-! ### Runs of commands -/

theorem performOne_of_exec {i : Instr} {s t : State} {o : Output} (h : exec i s = .next t) (ho : t.out = some o) :
    performOne i s = some (t, o) := by
  simp [performOne, h, ho]

theorem performAll_cons {i : Instr} {s t : State} {o : Output} (h : performOne i s = some (t, o)) (is : List Instr) :
    performAll (i :: is) s = (performAll is t).map fun r => (r.1, o :: r.2) := by
  simp [performAll, h]

theorem performAll_append {is : List Instr} {s t : State} {outs : List Output}
    (h : performAll is s = some (t, outs)) (js : List Instr) :
    performAll (is ++ js) s = (performAll js t).map fun r => (r.1, outs ++ r.2) := by
  induction is generalizing s outs with
  | nil =>
    obtain ⟨rfl, rfl⟩ : s = t ∧ [] = outs := by simpa [performAll] using h
    simp
  | cons i is ih =>
    cases hi : performOne i s with
    | none => simp [performAll, hi] at h
    | some r =>
      obtain ⟨outs', htail, rfl⟩ : ∃ outs', performAll is r.1 = some (t, outs') ∧ r.2 :: outs' = outs := by
        simpa [performAll_cons hi] using h
      rw [List.cons_append, performAll_cons hi, ih htail, Option.map_map]
      rfl

/-! ### The WRITEs, R103 -/

/-- A packet with bytes stored from payload slot `n` on. -/
def storeFrom (n : Nat) : List Byte → Packet → Packet
  | [], k => k
  | b :: bytes, k => storeFrom (n + 1) bytes (k.setSlot n b)

/-- The state after the WRITEs of some bytes of a non-sysex message. -/
def State.stored (bytes : List Byte) (s : State) : State :=
  { s with
    txBuffer := storeFrom s.txIndex bytes s.txBuffer
    txIndex := s.txIndex + bytes.length
    commands := s.commands.drop bytes.length }

/-- The bytes may be stored one after the other. -/
theorem State.stored_cons (b : Byte) (bytes : List Byte) (s : State) :
    (s.stored [b]).stored bytes = s.stored (b :: bytes) := by
  simp [State.stored, storeFrom, Nat.add_assoc, Nat.add_comm 1]

/-- The bytes are stored in order and nothing else happens; `hout` is what the BEGIN before them leaves. -/
theorem performAll_writes_of_not_sysEx {t : MessageType} (hns : t ≠ .sysEx) (bytes : List Byte) {s : State}
    (hf : s.fault = .none) (hA : s.activeType = some t) (hroom : s.txIndex + bytes.length ≤ 3)
    (hlimit : 3 ≤ s.params.txIndexLimit) (hout : s.out = some ⟨true, none⟩) :
    performAll (bytes.map Instr.write) s = some (s.stored bytes, List.replicate bytes.length ⟨true, none⟩) := by
  induction bytes generalizing s with
  | nil => rfl
  | cons b bytes ih =>
    rw [List.length_cons] at hroom
    have hwrite : performOne (.write b) s = some (s.stored [b], ⟨true, none⟩) := by
      refine performOne_of_exec ?_ hout
      rw [exec_write_of_not_sysEx b hf hA hns (by omega) (by omega), ← hout, ← List.drop_one]
      rfl
    have hrest := ih (s := s.stored [b]) hf hA (by simp only [State.stored, List.length_singleton]; omega) hlimit hout
    rw [List.map_cons, performAll_cons hwrite, hrest, State.stored_cons]
    rfl

/-! ### BEGIN to END, R105 -/

theorem ne_sysEx_of_lenOf_eq_some {t : MessageType} {n : Nat} (h : t.lenOf = some n) : t ≠ .sysEx := by
  rintro rfl
  cases h

/-- R77: no fixed length exceeds the payload of a packet. -/
theorem le_three_of_lenOf_eq_some {t : MessageType} {n : Nat} (h : t.lenOf = some n) : n ≤ 3 := by
  have hbound : ∀ m ∈ t.lenOf, m ≤ 3 := by cases t <;> decide
  exact hbound n h

/-- The state in which a fixed-length message is complete and not yet sent. -/
def State.assembled (t : MessageType) (bytes : List Byte) (s : State) : State :=
  (s.takeCommand.beginMessage t).stored bytes

/-- The packet of a fixed-length message, R106; `k` is what the buffer held before. -/
def fixedPacket (c : Params) (t : MessageType) (bytes : List Byte) (k : Packet) : Packet where
  event := header c.cable t.cinOf
  data1 := bytes.getD 0 (if c.beginClearsData then 0x00 else k.data1)
  data2 := bytes.getD 1 (if c.beginClearsData then 0x00 else k.data2)
  data3 := bytes.getD 2 (if c.beginClearsData then 0x00 else k.data3)

theorem storeFrom_zero {bytes : List Byte} (h : bytes.length ≤ 3) (k : Packet) :
    storeFrom 0 bytes k = ⟨k.event, bytes.getD 0 k.data1, bytes.getD 1 k.data2, bytes.getD 2 k.data3⟩ :=
  match bytes, h with
  | [], _ | [_], _ | [_, _], _ | [_, _, _], _ => rfl

theorem assembled_txBuffer (t : MessageType) {bytes : List Byte} (h : bytes.length ≤ 3) (s : State) :
    (s.assembled t bytes).txBuffer = fixedPacket s.params t bytes s.txBuffer := by
  change storeFrom 0 bytes (beginPacket s.params t s.txBuffer) = _
  rw [storeFrom_zero h, beginPacket_eq]
  rfl

section
variable {t : MessageType} {bytes : List Byte} {s : State} (hlen : t.lenOf = some bytes.length)
  (hf : s.fault = .none) (hlimit : 3 ≤ s.params.txIndexLimit)
include hlen hf hlimit

/-- R105: up to END nothing is sent and every command returns true. -/
theorem performAll_begin_writes :
    performAll (t.beginInstr :: bytes.map Instr.write) s =
      some (s.assembled t bytes, List.replicate (bytes.length + 1) ⟨true, none⟩) := by
  have hbegin : performOne t.beginInstr s = some (s.takeCommand.beginMessage t, ⟨true, none⟩) :=
    performOne_of_exec (exec_beginInstr t hf) rfl
  have hroom : (s.takeCommand.beginMessage t).txIndex + bytes.length ≤ 3 := by
    simpa using le_three_of_lenOf_eq_some hlen
  have hwrites := performAll_writes_of_not_sysEx (s := s.takeCommand.beginMessage t)
    (ne_sysEx_of_lenOf_eq_some hlen) bytes hf rfl hroom hlimit rfl
  rw [performAll_cons hbegin, hwrites]
  rfl

/-- R105: END sends the assembled packet. -/
theorem performAll_fixed_message :
    performAll (t.beginInstr :: bytes.map Instr.write ++ [.endMessage]) s =
      some ((s.assembled t bytes).takeCommand.hwWrite,
        List.replicate (bytes.length + 1) ⟨true, none⟩ ++ [⟨s.transport.writeAnswer, none⟩]) := by
  have hend : performOne .endMessage (s.assembled t bytes) =
      some ((s.assembled t bytes).takeCommand.hwWrite, ⟨s.transport.writeAnswer, none⟩) :=
    performOne_of_exec (exec_endMessage_of_active hf (Option.some_ne_none t)) rfl
  rw [performAll_append (performAll_begin_writes hlen hf hlimit), performAll_cons hend]
  rfl

end

theorem fixed_message_trace (t : MessageType) {bytes : List Byte} (h : bytes.length ≤ 3) (s : State) :
    (s.assembled t bytes).takeCommand.hwWrite.trace =
      s.trace ++ [.wr (fixedPacket s.params t bytes s.txBuffer) s.transport.writeAnswer] := by
  rw [State.hwWrite_trace, State.takeCommand_txBuffer, assembled_txBuffer t h]
  rfl

/-! ### The statement -/

/-- Settles O41: BEGIN and the WRITEs only assemble the packet of R106, which END sends. -/
theorem fixedLengthMessageSendsOnePacket : Obligations.FixedLengthMessageSendsOnePacket := by
  intro i ty w cin bytes s hrow _ hlen hf hlimit
  obtain ⟨rfl, rfl, rfl⟩ := mem_beginRows_iff.1 hrow
  exact ⟨⟨_, performAll_begin_writes hlen hf hlimit, rfl, rfl⟩,
    _, _, performAll_fixed_message hlen hf hlimit, rfl, fixed_message_trace ty (le_three_of_lenOf_eq_some hlen) s⟩

end Sys2Proof.Machine
end

section
/-! A packet read to its end gives its payload in order, and the packet of a fixed-length message the message's
bytes (42_receive.md R143 to R146; 40_transmit.md R106). -/

namespace Sys2Proof.Machine

open Statements

/-! ### Reading out the buffer, R144 -/

/-- The first `n` entries of the receive buffer, last first: the order in which they are delivered. -/
def RxBuffer.undelivered (b : RxBuffer) : Nat → List Byte
  | 0 => []
  | n + 1 => b.get n :: b.undelivered n

theorem RxBuffer.length_undelivered (b : RxBuffer) (n : Nat) : (b.undelivered n).length = n := by
  induction n with
  | zero => rfl
  | succ n ih => exact congrArg (· + 1) ih

theorem exec_read_of_undelivered {s : State} (hf : s.fault = .none) (h : s.rxIndex ≠ 0) :
    exec .read s = .next s.takeCommand.deliver := by
  rw [exec_ok _ hf]
  exact congrArg _ (State.readByte_of_undelivered (s := s.takeCommand) h)

/-- R144, R219: what is undelivered comes out byte by byte, and the transport is not asked. -/
theorem performAll_reads_of_undelivered {n : Nat} {s : State} (hf : s.fault = .none) (hn : s.rxIndex.val = n) :
    ∃ v, performAll (List.replicate n .read) s = some (v, deliveries (s.rxBuffer.undelivered n)) ∧
      v.fault = .none ∧ v.rxIndex = 0 ∧ v.trace = s.trace ∧ v.transport = s.transport := by
  induction n generalizing s with
  | zero => exact ⟨s, rfl, hf, Fin.ext hn, rfl, rfl⟩
  | succ n ih =>
    have hread : performOne .read s = some (s.takeCommand.deliver, ⟨true, some (s.rxBuffer.get n)⟩) := by
      refine performOne_of_exec (exec_read_of_undelivered hf fun h0 => ?_) ?_
      · simp [h0] at hn
      · simp [hn]
    have hleft : (s.takeCommand.deliver).rxIndex.val = n := by
      change (s.rxIndex - 1).val = n
      omega
    obtain ⟨v, hv, hkept⟩ := ih (s := s.takeCommand.deliver) hf hleft
    refine ⟨v, ?_, hkept⟩
    rw [List.replicate_succ, performAll_cons hread, hv]
    rfl

/-! ### Reading one packet, R143 to R146 -/

/-- The READ that fetches a recognised packet delivers its first payload byte and leaves the rest undelivered. -/
theorem acceptPacket_delivers_payload {p : Packet} (hrec : rxClass p.cin ≠ .unrecognised) (s : State) :
    ∃ b, (s.acceptPacket (rxClass p.cin) p).out = some ⟨true, some b⟩ ∧
      p.payload = b :: (s.acceptPacket (rxClass p.cin) p).rxBuffer.undelivered
        (s.acceptPacket (rxClass p.cin) p).rxIndex := by
  refine ⟨p.data1, ?_⟩
  unfold Packet.payload
  cases hc : rxClass p.cin with
  | one => exact ⟨rfl, rfl⟩
  | two => exact ⟨rfl, rfl⟩
  | three => exact ⟨rfl, rfl⟩
  | unrecognised => exact absurd hc hrec

theorem acceptPacket_fault (c : RxClass) (p : Packet) (s : State) : (s.acceptPacket c p).fault = s.fault :=
  (acceptPacket_keeps_transmitSide c p s).fault

theorem exec_read_of_packet {s : State} {p : Packet} (hf : s.fault = .none) (h0 : s.rxIndex = 0)
    (hans : s.transport.readAnswer = some p) :
    exec .read s = .next (s.takeCommand.acceptPacket (rxClass p.cin) p) := by
  rw [exec_ok _ hf]
  exact congrArg _ (State.readByte_of_packet (s := s.takeCommand) h0 hans)

/-- R146 for one packet: as many READs as its payload has bytes deliver them in order, with one `HwRead`. -/
theorem performAll_reads_of_packet {s : State} {p : Packet} (hrec : rxClass p.cin ≠ .unrecognised)
    (hf : s.fault = .none) (h0 : s.rxIndex = 0) (hans : s.transport.readAnswer = some p) :
    ∃ v, performAll (List.replicate p.payload.length .read) s = some (v, deliveries p.payload) ∧
      v.fault = .none ∧ v.rxIndex = 0 ∧ v.trace = s.trace ++ [.rd (some p)] ∧
      v.transport = s.transport.afterRead := by
  obtain ⟨b, hout, hpay⟩ := acceptPacket_delivers_payload hrec s.takeCommand
  set t := s.takeCommand.acceptPacket (rxClass p.cin) p
  have hread : performOne .read s = some (t, ⟨true, some b⟩) :=
    performOne_of_exec (exec_read_of_packet hf h0 hans) hout
  obtain ⟨v, hv, hfault, hidx, htrace, hport⟩ :=
    performAll_reads_of_undelivered (s := t) ((acceptPacket_fault _ _ _).trans hf) rfl
  refine ⟨v, ?_, hfault, hidx, htrace.trans (State.acceptPacket_trace _ _ _),
    hport.trans (State.acceptPacket_transport _ _ _)⟩
  rw [hpay, List.length_cons, RxBuffer.length_undelivered, List.replicate_succ, performAll_cons hread, hv]
  rfl

/-! ### The payload of a fixed-length message, R106 -/

/-- R72, R85: the payload is the first bytes of the packet, as many as the CIN declares. -/
theorem payload_eq_take {p : Packet} {n : Nat} (h : (rxClass p.cin).length = some n) :
    p.payload = [p.data1, p.data2, p.data3].take n := by
  unfold Packet.payload
  cases hc : rxClass p.cin <;> rw [hc] at h <;> cases h <;> rfl

theorem length_rxClass_cinOf {t : MessageType} {n : Nat} (h : t.lenOf = some n) :
    (rxClass t.cinOf).length = some n := by
  have hrow := (transmitCinsAreReceivedAtTheirLength.1 _ (mem_beginRows_iff.2 ⟨rfl, rfl, rfl⟩ :
    (t.beginInstr, t, mkCmd 0x3 t.code, t.cinOf) ∈ beginRows)).2
  simpa [h] using hrow

theorem fixedPacket_cin (c : Params) (t : MessageType) (bytes : List Byte) (k : Packet) :
    (fixedPacket c t bytes k).cin = t.cinOf :=
  header_cin_bits c.cable t.cinOf

theorem take_getD_eq {bytes : List Byte} (h : bytes.length ≤ 3) (x y z : Byte) :
    [bytes.getD 0 x, bytes.getD 1 y, bytes.getD 2 z].take bytes.length = bytes :=
  match bytes, h with
  | [], _ | [_], _ | [_, _], _ | [_, _, _], _ => rfl

theorem fixedPacket_payload {t : MessageType} {bytes : List Byte} (h : t.lenOf = some bytes.length) (c : Params)
    (k : Packet) : (fixedPacket c t bytes k).payload = bytes := by
  have hclass : (rxClass (fixedPacket c t bytes k).cin).length = some bytes.length := by
    rw [fixedPacket_cin]
    exact length_rxClass_cinOf h
  rw [payload_eq_take hclass]
  exact take_getD_eq (le_three_of_lenOf_eq_some h) _ _ _

/-! ### The statement -/

/-- Settles O42: the packet sent has the message's bytes as its payload, and reading it delivers the payload. -/
theorem fixedLengthRoundTrip : Obligations.FixedLengthRoundTrip := by
  intro ty bytes s hlen hf hlimit
  refine ⟨_, _, _, _, performAll_fixed_message hlen hf hlimit,
    fixed_message_trace ty (le_three_of_lenOf_eq_some hlen) s, fun u more hfu h0 hans => ?_⟩
  have hrec : rxClass (fixedPacket s.params ty bytes s.txBuffer).cin ≠ .unrecognised := by
    rw [fixedPacket_cin]
    exact rxClass_cinOf_recognised ty
  have hans' : u.transport.readAnswer = some (fixedPacket s.params ty bytes s.txBuffer) := by
    simp [Transport.readAnswer, hans]
  obtain ⟨v, hv, -, hidx, -, hport⟩ := performAll_reads_of_packet hrec hfu h0 hans'
  rw [fixedPacket_payload hlen] at hv
  exact ⟨v, hv, hidx, by simp [hport, hans]⟩

end Sys2Proof.Machine
end

section
/-! The sysex WRITE, one command at a time: header, zero fill, slot store and the auto-flush of a full group
(41_sysex.md R120 to R127, R131). -/

namespace Sys2Proof.Machine

/-! ### The packet of each row of R131 -/

section
variable (c : Params) (k : Packet)

/-- R124: a terminator that opens a group zero-fills where the parameter says so. -/
theorem sysexPacket_zero_stop :
    sysexPacket c 0 sysexStopByte k =
      { event := header c.cable 0x5
        data1 := sysexStopByte
        data2 := if c.stopGroupZeroFill then 0x00 else k.data2
        data3 := if c.stopGroupZeroFill then 0x00 else k.data3 } := by
  cases hz : c.stopGroupZeroFill <;> simp [sysexPacket, sysexHeader, Packet.setSlot, stopCin, hz]

theorem sysexPacket_one_stop :
    sysexPacket c 1 sysexStopByte k = { k with event := header c.cable 0x6, data2 := sysexStopByte } := rfl

theorem sysexPacket_two_stop :
    sysexPacket c 2 sysexStopByte k = { k with event := header c.cable 0x7, data3 := sysexStopByte } := rfl

variable {b : Byte} (hb : b ≠ sysexStopByte)
include hb

/-- R121, R123: any other byte that opens a group starts it afresh (log 17). -/
theorem sysexPacket_zero : sysexPacket c 0 b k = mkPacket c.cable 0x4 b 0x00 0x00 := by
  simp [sysexPacket, sysexHeader, Packet.setSlot, sysexStartCin, mkPacket, hb]

theorem sysexPacket_one : sysexPacket c 1 b k = { k with data2 := b } := by
  simp [sysexPacket, sysexHeader, Packet.setSlot, hb]

theorem sysexPacket_two : sysexPacket c 2 b k = { k with data3 := b } := by
  simp [sysexPacket, sysexHeader, Packet.setSlot, hb]

end

theorem sysexPacket_zero_data1 (c : Params) (b : Byte) (k : Packet) : (sysexPacket c 0 b k).data1 = b := rfl

/-! ### The WRITE, R102 and R126 -/

theorem writeFault_eq_none_of_sysEx {s : State} (hA : s.activeType = some .sysEx)
    (hlimit : s.txIndex ≠ s.params.txIndexLimit) : s.writeFault = none := by
  simp [State.writeFault, hA, hlimit]

/-- The state after a sysex WRITE that does not fault, R102: the byte is stored and counted. -/
def State.fragmented (b : Byte) (s : State) : State :=
  { s.takeCommand.sysexStore b with txIndex := s.txIndex + 1 }

@[simp] theorem State.fragmented_fault (b : Byte) (s : State) : (s.fragmented b).fault = s.fault := by
  rw [fragmented, sysexStore_eq]; rfl
@[simp] theorem State.fragmented_activeType (b : Byte) (s : State) : (s.fragmented b).activeType = s.activeType :=
  s.takeCommand.sysexStore_activeType b
@[simp] theorem State.fragmented_params (b : Byte) (s : State) : (s.fragmented b).params = s.params :=
  s.takeCommand.sysexStore_params b
@[simp] theorem State.fragmented_txIndex (b : Byte) (s : State) : (s.fragmented b).txIndex = s.txIndex + 1 := rfl
@[simp] theorem State.fragmented_txBuffer (b : Byte) (s : State) :
    (s.fragmented b).txBuffer = sysexPacket s.params (s.txIndex % 3) b s.txBuffer :=
  s.takeCommand.sysexStore_txBuffer b

section
variable {s : State} {b : Byte} (hf : s.fault = .none) (hA : s.activeType = some .sysEx)
  (hlimit : s.txIndex ≠ s.params.txIndexLimit)
include hf hA hlimit

theorem exec_write_of_sysEx : exec (.write b) s = .next (s.fragmented b) := by
  have hF : s.takeCommand.writeFault = none := writeFault_eq_none_of_sysEx (s := s.takeCommand) hA hlimit
  rw [exec_ok _ hf]
  exact congrArg _ (State.writeByte_of_sysEx b hF hA)

theorem exec_write_of_full_group (hp : s.txIndex % 3 = 2) (hb : b ≠ sysexStopByte) :
    exec (.write b) s = .next
      { s with
        txBuffer := sysexPacket s.params (s.txIndex % 3) b s.txBuffer
        txIndex := s.txIndex + 1
        trace := s.trace ++ [.wr (sysexPacket s.params (s.txIndex % 3) b s.txBuffer) s.transport.writeAnswer]
        transport := s.transport.afterWrite
        out := some ⟨s.transport.writeAnswer, none⟩
        commands := s.commands.tail } := by
  rw [exec_write_of_sysEx hf hA hlimit, State.fragmented]
  rcases s.takeCommand.sysexStore_cases b with ⟨-, -, h⟩ | ⟨hno, -⟩
  · rw [h]; rfl
  · exact absurd hno (not_or.2 ⟨not_not_intro hp, hb⟩)

theorem exec_write_of_open_group (hno : s.txIndex % 3 ≠ 2 ∨ b = sysexStopByte) :
    exec (.write b) s = .next
      { s with
        txBuffer := sysexPacket s.params (s.txIndex % 3) b s.txBuffer
        txIndex := s.txIndex + 1
        out := some ⟨true, none⟩
        commands := s.commands.tail } := by
  rw [exec_write_of_sysEx hf hA hlimit, State.fragmented]
  rcases s.takeCommand.sysexStore_cases b with ⟨hp, hb, -⟩ | ⟨-, h⟩
  · exact absurd hno (not_or.2 ⟨not_not_intro hp, hb⟩)
  · rw [h]; rfl

end

/-! ### The statements -/

/-- Settles O20: the packet is the row's, position by position with a terminator and without, and the group is full
or still open. -/
theorem writeFragmentsSysex : Obligations.WriteFragmentsSysex := by
  rintro s b p hf hA hlimit rfl buf hbuf
  have hpacket : buf = sysexPacket s.params (s.txIndex % 3) b s.txBuffer := by
    rw [hbuf]
    have hlt : s.txIndex % 3 < 3 := Nat.mod_lt _ (by decide)
    by_cases hb : b = sysexStopByte
    · subst hb
      interval_cases s.txIndex % 3
      · rw [sysexPacket_zero_stop]; rfl
      · rfl
      · rfl
    · have hb' : b ≠ 247#8 := hb
      interval_cases s.txIndex % 3
      · rw [sysexPacket_zero _ _ hb]; simp [hb', mkPacket, header]
      · rw [sysexPacket_one _ _ hb]; simp [hb']
      · rw [sysexPacket_two _ _ hb]; simp [hb']
  rw [hpacket]
  split
  next hfull => exact exec_write_of_full_group hf hA hlimit hfull.1 hfull.2
  next hopen => exact exec_write_of_open_group hf hA hlimit (by rwa [not_and_or, not_not] at hopen)

/-- Settles O21: the byte is counted whatever the transport answers, so the next one stands at position 0 of a new
group, and END sends the buffer, which still holds the failed packet. -/
theorem failedAutoFlushIsNotRetried : Obligations.FailedAutoFlushIsNotRetried := by
  intro s b c hf hA hp hroom hb hanswer
  have hflush := exec_write_of_full_group hf hA (by omega) hp hb
  rw [hanswer] at hflush
  refine ⟨_, hflush, rfl, rfl, rfl, ?_, ?_⟩
  · have hnew : (s.txIndex + 1) % 3 = 0 := by omega
    refine ⟨_, exec_write_of_open_group hf hA (Nat.ne_of_lt hroom) (.inl ?_), rfl, hf, ?_, fun hc => ?_⟩
    · rw [hnew]; decide
    · rw [hnew]; exact sysexPacket_zero_data1 _ c _
    · rw [hnew]; exact sysexPacket_zero _ _ hc
  · exact ⟨_, _, exec_endMessage_of_active hf (by simp [hA]), rfl⟩

end Sys2Proof.Machine
end

section
/-! A whole sysex message: BEGIN, its WRITEs and END send its packets (41_sysex.md R128, R132). -/

namespace Sys2Proof.Machine

/-! ### What a run sends -/

/-- From `s` to `t` exactly the packets `ps` were handed to the transport, and no other call was made. -/
def Sent (s t : State) (ps : List Packet) : Prop :=
  ∃ es, t.trace = s.trace ++ es ∧ packetsSent es = ps ∧ es.length = ps.length

theorem Sent.none {s t : State} (h : t.trace = s.trace) : Sent s t [] :=
  ⟨[], by simp [h], rfl, rfl⟩

theorem Sent.one {s t : State} {p : Packet} {ok : Bool} (h : t.trace = s.trace ++ [.wr p ok]) : Sent s t [p] :=
  ⟨[.wr p ok], h, rfl, rfl⟩

theorem Sent.trans {s t u : State} {ps qs : List Packet} (h : Sent s t ps) (h' : Sent t u qs) :
    Sent s u (ps ++ qs) := by
  obtain ⟨es, ht, rfl, hes⟩ := h
  obtain ⟨fs, hu, rfl, hfs⟩ := h'
  exact ⟨es ++ fs, by rw [hu, ht, List.append_assoc], List.filterMap_append, by simp [hes, hfs]⟩

/-! ### The run, byte by byte -/

/-- The packets of the WRITEs of some bytes and the END after them, from the buffer `k` with `n` bytes counted. -/
def fragments (c : Params) : Nat → Packet → List Byte → List Packet
  | _, k, [] => [k]
  | n, k, b :: bytes =>
    (if autoFlushes (n % 3) b then [sysexPacket c (n % 3) b k] else []) ++
      fragments c (n + 1) (sysexPacket c (n % 3) b k) bytes

/-- R120, R126: a sysex WRITE returns a result, and sends the packet of a full group. -/
theorem fragmented_returns_and_sends (b : Byte) (s : State) :
    ∃ o, (s.fragmented b).out = some o ∧
      Sent s (s.fragmented b) (if autoFlushes (s.txIndex % 3) b then
        [sysexPacket s.params (s.txIndex % 3) b s.txBuffer] else []) := by
  unfold State.fragmented State.sysexStore
  rw [State.takeCommand_txIndex]
  split
  · exact ⟨_, rfl, .one rfl⟩
  · exact ⟨_, rfl, .none rfl⟩

/-- R120, R128: the WRITEs send what the fragmentor flushes and END sends the rest, whatever the transport answers. -/
theorem performAll_sysex_writes_end (bytes : List Byte) {s : State} (hf : s.fault = .none)
    (hA : s.activeType = some .sysEx) (hroom : s.txIndex + bytes.length ≤ s.params.txIndexLimit) :
    ∃ t outs, performAll (bytes.map Instr.write ++ [.endMessage]) s = some (t, outs) ∧
      Sent s t (fragments s.params s.txIndex s.txBuffer bytes) ∧ t.txIndex = s.txIndex + bytes.length := by
  induction bytes generalizing s with
  | nil =>
    have hend : performOne .endMessage s = some (s.takeCommand.hwWrite, _) :=
      performOne_of_exec (exec_endMessage_of_active hf (by simp [hA])) rfl
    exact ⟨_, _, performAll_cons hend [], .one rfl, rfl⟩
  | cons b bytes ih =>
    rw [List.length_cons] at hroom
    obtain ⟨o, hout, hsent⟩ := fragmented_returns_and_sends b s
    have hwrite := performOne_of_exec (exec_write_of_sysEx (b := b) hf hA (by omega)) hout
    obtain ⟨t, outs, hrun, hrest, hidx⟩ := ih (s := s.fragmented b) (by simpa using hf) (by simpa using hA)
      (by simp; omega)
    rw [State.fragmented_params, State.fragmented_txIndex, State.fragmented_txBuffer] at hrest
    rw [State.fragmented_txIndex] at hidx
    refine ⟨t, o :: outs, ?_, hsent.trans hrest, by rw [hidx, List.length_cons]; omega⟩
    rw [List.map_cons, List.cons_append, performAll_cons hwrite, hrun]
    rfl

/-! ### The packets of a stream, group by group -/

theorem sysexPackets_group (c : Params) (d2 d3 a b d : Byte) {rest : List Byte} (h : rest ≠ []) :
    sysexPackets c d2 d3 (a :: b :: d :: rest) = mkPacket c.cable 0x4 a b d :: sysexPackets c b d rest := by
  obtain ⟨x, xs, rfl⟩ := List.exists_cons_of_ne_nil h
  rfl

/-- What the slots held before shows only where the stop marker stands alone. -/
theorem sysexPackets_of_two (c : Params) (d2 d3 e2 e3 a b : Byte) (rest : List Byte) :
    sysexPackets c d2 d3 (a :: b :: rest) = sysexPackets c e2 e3 (a :: b :: rest) :=
  match rest with
  | [] | [_] | _ :: _ :: _ => rfl

/-- R121, R126: three bytes that are no stop marker fill a group, which is sent. -/
theorem fragments_group (c : Params) {n : Nat} (k : Packet) {a b d : Byte} (bytes : List Byte) (hn : n % 3 = 0)
    (ha : a ≠ sysexStopByte) (hb : b ≠ sysexStopByte) (hd : d ≠ sysexStopByte) :
    fragments c n k (a :: b :: d :: bytes) =
      mkPacket c.cable 0x4 a b d :: fragments c (n + 3) (mkPacket c.cable 0x4 a b d) bytes := by
  have h1 : (n + 1) % 3 = 1 := by omega
  have h2 : (n + 1 + 1) % 3 = 2 := by omega
  simp [fragments, autoFlushes, sysexPacket_zero, sysexPacket_one, sysexPacket_two, mkPacket, hn, h1, h2, ha, hb, hd]

/-- R132: what the fragmentor sends of a body and its terminator, begun with a new group. -/
theorem fragments_eq_sysexPackets (c : Params) : ∀ (body : List Byte) (n : Nat) (k : Packet),
    (∀ b ∈ body, b ≠ sysexStopByte) → n % 3 = 0 →
    fragments c n k (body ++ [sysexStopByte]) = sysexPackets c k.data2 k.data3 (body ++ [sysexStopByte])
  | [], n, k, _, hn => by
    cases hz : c.stopGroupZeroFill <;>
      simp [fragments, autoFlushes, sysexPackets, sysexPacket_zero_stop, mkPacket, hn, hz]
  | [a], n, k, hbody, hn => by
    have h1 : (n + 1) % 3 = 1 := by omega
    have ha : a ≠ sysexStopByte := by simpa using hbody
    simp [fragments, autoFlushes, sysexPackets, sysexPacket_zero, sysexPacket_one_stop, mkPacket, hn, h1, ha]
  | [a, b], n, k, hbody, hn => by
    have h1 : (n + 1) % 3 = 1 := by omega
    have h2 : (n + 1 + 1) % 3 = 2 := by omega
    obtain ⟨ha, hb⟩ : a ≠ sysexStopByte ∧ b ≠ sysexStopByte := by simpa using hbody
    simp [fragments, autoFlushes, sysexPackets, sysexPacket_zero, sysexPacket_one, sysexPacket_two_stop, mkPacket, hn,
      h1, h2, ha, hb]
  | a :: b :: d :: rest, n, k, hbody, hn => by
    obtain ⟨ha, hb, hd, hrest⟩ : a ≠ sysexStopByte ∧ b ≠ sysexStopByte ∧ d ≠ sysexStopByte ∧
      ∀ x ∈ rest, x ≠ sysexStopByte := by simpa using hbody
    rw [List.cons_append, List.cons_append, List.cons_append, fragments_group c k _ hn ha hb hd,
      sysexPackets_group c _ _ a b d (by simp), fragments_eq_sysexPackets c rest (n + 3) _ hrest (by omega)]
    rfl

theorem length_sysexPackets (c : Params) (d2 d3 : Byte) (bytes : List Byte) :
    (sysexPackets c d2 d3 bytes).length = (bytes.length + 2) / 3 := by
  fun_induction sysexPackets c d2 d3 bytes with
  | case1 | case2 | case3 | case4 | case5 => simp
  | case6 d2 d3 a b d rest hrest ih => simp only [List.length_cons, ih]; omega

/-! ### The message -/

theorem length_sysexStream (body : List Byte) : (sysexStream body).length = body.length + 2 := by
  simp [sysexStream]

/-- R132: BEGIN sends nothing, and the first byte of the stream opens the first group. -/
theorem performAll_sysex_message {body : List Byte} {s : State} (hbody : ∀ b ∈ body, b ≠ sysexStopByte)
    (hf : s.fault = .none) (hroom : body.length + 2 ≤ s.params.txIndexLimit) :
    ∃ t outs, performAll (Pseudo.sysex body).expand s = some (t, outs) ∧
      Sent s t (sysexPackets s.params 0x00 0x00 (sysexStream body)) ∧ t.txIndex = body.length + 2 := by
  have hbegin : performOne (MessageType.beginInstr .sysEx) s =
      some (s.takeCommand.beginMessage .sysEx, ⟨true, none⟩) := performOne_of_exec (exec_beginInstr .sysEx hf) rfl
  obtain ⟨t, outs, hrun, hsent, hidx⟩ := performAll_sysex_writes_end (sysexStream body)
    (s := s.takeCommand.beginMessage .sysEx) hf rfl
    (by rwa [length_sysexStream, State.beginMessage_txIndex, Nat.zero_add])
  rw [length_sysexStream, State.beginMessage_txIndex, Nat.zero_add] at hidx
  refine ⟨t, ⟨true, none⟩ :: outs, (performAll_cons hbegin _).trans (congrArg (Option.map _) hrun), ?_, hidx⟩
  have hstart : ∀ b ∈ sysexStartByte :: body, b ≠ sysexStopByte :=
    List.forall_mem_cons.2 ⟨by decide, hbody⟩
  have hpackets : fragments s.params 0 (beginPacket s.params .sysEx s.txBuffer) (sysexStream body) =
      sysexPackets s.params 0x00 0x00 (sysexStream body) := by
    refine (fragments_eq_sysexPackets s.params (sysexStartByte :: body) 0 _ hstart rfl).trans ?_
    cases body <;> exact sysexPackets_of_two ..
  exact hpackets ▸ hsent

/-! ### The statement -/

/-- Settles O43: the message sends the stream's packets, one event for each, and their number is counted apart. -/
theorem sysexMessagePackets : Obligations.SysexMessagePackets := by
  intro body s hbody hf hroom
  obtain ⟨t, outs, hrun, ⟨es, htrace, hsent, hlen⟩, hidx⟩ := performAll_sysex_message hbody hf hroom
  refine ⟨t, outs, es, hrun, htrace, hsent, ?_, hidx⟩
  rw [hlen, length_sysexPackets, length_sysexStream]

end Sys2Proof.Machine
end

section
/-! Packets read one after the other give their payloads in order, and the packets of a sysex message the message's
bytes (42_receive.md R146; 41_sysex.md R133). -/

namespace Sys2Proof.Machine

/-! ### Reading packets, R146 -/

theorem deliveries_append (bytes more : List Byte) :
    deliveries (bytes ++ more) = deliveries bytes ++ deliveries more :=
  List.map_append

/-- R146: recognised packets are delivered in order, with one `HwRead` for each. -/
theorem performAll_reads_of_packets {ps : List Packet} {more : List (Option Packet)} {s : State}
    (hrec : ∀ p ∈ ps, rxClass p.cin ≠ .unrecognised) (hf : s.fault = .none) (h0 : s.rxIndex = 0)
    (hans : s.transport.readAnswers = ps.map some ++ more) :
    ∃ v, performAll (List.replicate (ps.flatMap Packet.payload).length .read) s =
        some (v, deliveries (ps.flatMap Packet.payload)) ∧
      v.rxIndex = 0 ∧ v.trace = s.trace ++ ps.map (fun p => .rd (some p)) ∧ v.transport.readAnswers = more := by
  induction ps generalizing s with
  | nil => exact ⟨s, rfl, h0, (List.append_nil _).symm, hans⟩
  | cons p ps ih =>
    obtain ⟨hp, hps⟩ := List.forall_mem_cons.1 hrec
    obtain ⟨u, hu, hfu, h0u, htrace, hport⟩ :=
      performAll_reads_of_packet hp hf h0 (by simp [Transport.readAnswer, hans])
    obtain ⟨v, hv, h0v, htracev, hmore⟩ := ih hps hfu h0u (by simp [hport, hans])
    refine ⟨v, ?_, h0v, by simp [htracev, htrace], hmore⟩
    rw [List.flatMap_cons, List.length_append, List.replicate_add, performAll_append hu, hv, deliveries_append]
    rfl

/-! ### The payloads of a sysex message, R133 -/

theorem rxClass_sysexPackets_recognised (c : Params) (d2 d3 : Byte) (bytes : List Byte) :
    ∀ p ∈ sysexPackets c d2 d3 bytes, rxClass p.cin ≠ .unrecognised := by
  fun_induction sysexPackets c d2 d3 bytes with
  | case1 => simp
  | case2 | case3 | case4 | case5 => simp [Packet.cin_mk, rxClass]
  | case6 d2 d3 a b d rest hrest ih => exact List.forall_mem_cons.2 ⟨by simp [Packet.cin_mk, rxClass], ih⟩

theorem payload_mkPacket (cn : Nibble) {cin : Nibble} (d1 d2 d3 : Byte) {n : Nat}
    (h : (rxClass cin).length = some n) : (mkPacket cn cin d1 d2 d3).payload = [d1, d2, d3].take n :=
  payload_eq_take (by rwa [Packet.cin_mk])

/-- R78, R85: each sysex CIN declares the stream's bytes in its packet, and no others. -/
theorem flatMap_payload_sysexPackets (c : Params) (d2 d3 : Byte) (bytes : List Byte) :
    (sysexPackets c d2 d3 bytes).flatMap Packet.payload = bytes := by
  fun_induction sysexPackets c d2 d3 bytes with
  | case1 => rfl
  | case2 | case3 => simp [payload_mkPacket (cin := 5#4) (n := 1) _ _ _ _ rfl]
  | case4 => simp [payload_mkPacket (cin := 6#4) (n := 2) _ _ _ _ rfl]
  | case5 => simp [payload_mkPacket (cin := 7#4) (n := 3) _ _ _ _ rfl]
  | case6 d2 d3 a b d rest hrest ih => simp [payload_mkPacket (cin := 4#4) (n := 3) _ _ _ _ rfl, ih]

/-! ### The statement -/

/-- Settles O44: the packets sent have the stream as their payloads, and reading them delivers the payloads. -/
theorem sysexRoundTrip : Obligations.SysexRoundTrip := by
  intro body s hbody hf hroom
  obtain ⟨t, outs, hrun, ⟨es, htrace, hsent, -⟩, -⟩ := performAll_sysex_message hbody hf hroom
  refine ⟨t, outs, es, hrun, htrace, fun u more hfu h0 hans => ?_⟩
  rw [hsent] at hans
  obtain ⟨v, hv, hidx, -, hmore⟩ :=
    performAll_reads_of_packets (rxClass_sysexPackets_recognised s.params _ _ _) hfu h0 hans
  rw [flatMap_payload_sysexPackets, length_sysexStream] at hv
  exact ⟨v, hv, hidx, hmore⟩

end Sys2Proof.Machine
end

section
/-! READ, one command at a time: what it delivers, the row of the packet that answers it, and packets read one after
the other (42_receive.md R140 to R146). -/

namespace Sys2Proof.Machine

open Statements

/-! ### READ by what is left to deliver, R142 and R144 -/

theorem exec_read_of_rxIndex_eq {s : State} {n : Fin 4} (hf : s.fault = .none) (h : s.rxIndex = n) (hn : n ≠ 0) :
    exec .read s = .next
      { s with
        rxIndex := n - 1
        out := some ⟨true, some (s.rxBuffer.get (n.val - 1))⟩
        commands := s.commands.tail } := by
  subst h
  exact exec_read_of_undelivered hf hn

theorem exec_read_of_no_packet {s : State} (hf : s.fault = .none) (h0 : s.rxIndex = 0)
    (hans : s.transport.readAnswer = none) : exec .read s = .next s.takeCommand.acceptNone := by
  rw [exec_ok _ hf]
  exact congrArg _ (State.readByte_of_no_packet (s := s.takeCommand) h0 hans)

/-! ### The packet rows, R76 -/

@[simp] theorem mkPacket_data1 (cn cin : Nibble) (d1 d2 d3 : Byte) : (mkPacket cn cin d1 d2 d3).data1 = d1 := rfl
@[simp] theorem mkPacket_data2 (cn cin : Nibble) (d1 d2 d3 : Byte) : (mkPacket cn cin d1 d2 d3).data2 = d2 := rfl
@[simp] theorem mkPacket_data3 (cn cin : Nibble) (d1 d2 d3 : Byte) : (mkPacket cn cin d1 d2 d3).data3 = d3 := rfl

/-- The row of a CIN is the one the decoder gives the packet of that CIN. -/
theorem eq_decodePacket_of_mem_packetRows {cn cin : Nibble} {d1 d2 d3 : Byte} {i : Instr}
    (h : (cin, i) ∈ packetRows cn d1 d2 d3) : i = decodePacket (mkPacket cn cin d1 d2 d3) := by
  have hrows : ∀ r ∈ packetRows cn d1 d2 d3, r.2 = decodePacket (mkPacket cn r.1 d1 d2 d3) := by
    simp [packetRows, decodePacket, Packet.cin_mk, Packet.cable_mk]
  exact hrows _ h

/-- R140, log 9: with nothing undelivered a row accepts its packet, in the receive class of its CIN. -/
theorem exec_packetRow {s : State} {cn cin : Nibble} {d1 d2 d3 : Byte} {i : Instr} (hf : s.fault = .none)
    (h0 : s.rxIndex = 0) (hrow : (cin, i) ∈ packetRows cn d1 d2 d3) :
    exec i s = .next (s.takeCommand.acceptPacket (rxClass cin) (mkPacket cn cin d1 d2 d3)) := by
  rw [exec_ok _ hf, eq_decodePacket_of_mem_packetRows hrow, effect_decodePacket, Packet.cin_mk, State.receivePacket,
    if_pos (show s.takeCommand.rxIndex = 0 from h0)]

/-- R76: only the two reserved CINs are unrecognised. -/
theorem rxClass_eq_unrecognised_iff {cin : Nibble} : rxClass cin = .unrecognised ↔ cin = 0x0 ∨ cin = 0x1 := by
  revert cin
  decide

/-! ### The cable number, R141 -/

/-- The codec with a transport that lists these answers to `HwRead`. -/
def State.withReadAnswers (s : State) (answers : List (Option Packet)) : State :=
  { s with transport := { s.transport with readAnswers := answers } }

/-- What a packet leaves behind is decided by its class and its data; the whole packet stands in the trace only. -/
theorem acceptPacket_of_data_eq (c : RxClass) {p q : Packet} (h1 : p.data1 = q.data1) (h2 : p.data2 = q.data2)
    (h3 : p.data3 = q.data3) (more : List (Option Packet)) (s : State) :
    (s.withReadAnswers (some p :: more)).acceptPacket c p =
      { (s.withReadAnswers (some q :: more)).acceptPacket c q with trace := s.trace ++ [.rd (some p)] } := by
  obtain ⟨e, d1, d2, d3⟩ := p
  subst h1 h2 h3
  cases c <;> rfl

/-! ### The statements -/

/-- Settles O24: the three values of `rxIndex` that leave a byte to deliver. -/
theorem readDeliversABufferedByte : Obligations.ReadDeliversABufferedByte := fun _ hf =>
  ⟨fun h => exec_read_of_rxIndex_eq hf h (by decide), fun h => exec_read_of_rxIndex_eq hf h (by decide),
    fun h => exec_read_of_rxIndex_eq hf h (by decide)⟩

/-- Settles O25: the effect is that of a READ without a packet. -/
theorem readWithNoPacketReturnsFalse : Obligations.ReadWithNoPacketReturnsFalse :=
  fun _ hf h0 hans => exec_read_of_no_packet hf h0 hans

/-- Settles O26: READ and the packet's row have one effect, and the row's word is the packet's. -/
theorem readPerformsTheRowOfItsPacket : Obligations.ReadPerformsTheRowOfItsPacket :=
  fun _ p h0 hans => ⟨exec_read_eq_exec_decodePacket h0 hans, encode_decodePacket p⟩

/-- Settles O27: both CINs are of class one. -/
theorem oneBytePacketIsClassifiedAndDelivered : Obligations.OneBytePacketIsClassifiedAndDelivered := by
  intro s cn d1 d2 d3 cin i hf h0 hrow hcin
  have hclass : ∀ c ∈ [0x5#4, 0xF#4], rxClass c = .one := by decide
  rw [exec_packetRow hf h0 hrow, hclass cin hcin, State.acceptPacket_one]
  rfl

/-- Settles O28: the four CINs are of class two. -/
theorem twoBytePacketIsClassifiedAndDelivered : Obligations.TwoBytePacketIsClassifiedAndDelivered := by
  intro s cn d1 d2 d3 cin i hf h0 hrow hcin
  have hclass : ∀ c ∈ [0x2#4, 0x6#4, 0xC#4, 0xD#4], rxClass c = .two := by decide
  rw [exec_packetRow hf h0 hrow, hclass cin hcin, State.acceptPacket_two]
  rfl

/-- Settles O29: the eight CINs are of class three. -/
theorem threeBytePacketIsClassifiedAndDelivered : Obligations.ThreeBytePacketIsClassifiedAndDelivered := by
  intro s cn d1 d2 d3 cin i hf h0 hrow hcin
  have hclass : ∀ c ∈ [0x3#4, 0x4#4, 0x7#4, 0x8#4, 0x9#4, 0xA#4, 0xB#4, 0xE#4], rxClass c = .three := by decide
  rw [exec_packetRow hf h0 hrow, hclass cin hcin, State.acceptPacket_three]
  rfl

/-- Settles O30: both CINs are unrecognised, and nothing of such a packet is kept. -/
theorem unrecognisedPacketIsDropped : Obligations.UnrecognisedPacketIsDropped := by
  intro s cn d1 d2 d3 cin i hf h0 hrow hcin
  have hclass : rxClass cin = .unrecognised := rxClass_eq_unrecognised_iff.2 (by simpa using hcin)
  rw [exec_packetRow hf h0 hrow, hclass, State.acceptPacket_unrecognised]
  rfl

/-- Settles O32: the two packets are of one class and have the same data. -/
theorem cableNumberIsIgnoredOnReceive : Obligations.CableNumberIsIgnoredOnReceive := by
  intro s p q more hf h0 hcin h1 h2 h3
  have hread : ∀ r : Packet, exec .read (s.withReadAnswers (some r :: more)) =
      .next ((s.takeCommand.withReadAnswers (some r :: more)).acceptPacket (rxClass r.cin) r) :=
    fun r => exec_read_of_packet (s := s.withReadAnswers (some r :: more)) hf h0 rfl
  refine ⟨_, _, hread p, hread q, ?_, State.acceptPacket_trace _ _ _, State.acceptPacket_trace _ _ _⟩
  rw [State.acceptPacket_trace, hcin]
  exact acceptPacket_of_data_eq _ h1 h2 h3 more s.takeCommand

/-- Settles O45, by the run over recognised packets: a CIN that is not reserved is recognised. -/
theorem packetsAreDeliveredInOrder : Obligations.PacketsAreDeliveredInOrder :=
  fun _ _ _ hf h0 hcin hans =>
    performAll_reads_of_packets (fun p hp => mt rxClass_eq_unrecognised_iff.1 (not_or.2 (hcin p hp))) hf h0 hans

/-- Settles O10: the step is READ, which accepts the packet and so is the packet's row. -/
theorem stepRunsTheRowOfTheFetchedPacket : Obligations.StepRunsTheRowOfTheFetchedPacket := by
  intro s rest p more hf h0 hc hans
  have hanswer : s.transport.readAnswer = some p := by simp [Transport.readAnswer, hans]
  have hread := exec_read_of_packet hf h0 hanswer
  exact ⟨_, (step_command hf hc decodeCmd_read).trans hread,
    (exec_read_eq_exec_decodePacket h0 hanswer).symm.trans hread, by simp [hc], by simp [hans]⟩

end Sys2Proof.Machine
end

section
/-! INIT and DEINIT, one command at a time: the hook each calls, and what INIT clears (43_lifecycle.md R160 to R163). -/

namespace Sys2Proof.Machine

/-! ### INIT by its parameter, R161 -/

theorem exec_init_of_clearing {s : State} (hf : s.fault = .none) (hclear : s.params.initClearsState = true) :
    exec .init s = .next s.takeCommand.clearCodec.hwInit := by
  rw [exec_ok _ hf, effect_init, State.takeCommand_params, if_pos hclear]

theorem exec_init_of_keeping {s : State} (hf : s.fault = .none) (hkeep : s.params.initClearsState = false) :
    exec .init s = .next s.takeCommand.hwInit := by
  rw [exec_ok _ hf, effect_init, State.takeCommand_params, if_neg (by simp [hkeep])]

/-! ### DEINIT, R163 -/

theorem exec_deinit {s : State} (hf : s.fault = .none) : exec .deinit s = .next s.takeCommand.hwDeInit :=
  exec_ok .deinit hf

/-! ### The statements -/

/-- Settles O33: of the two values of the parameter, one puts the reset values before the hook's call and the other
leaves the registers to it as they are. -/
theorem initCallsTheHookAndMayClear : Obligations.InitCallsTheHookAndMayClear := by
  refine ⟨by decide, fun s hf => ?_⟩
  cases hparam : s.params.initClearsState with
  | true => exact exec_init_of_clearing hf hparam
  | false => exact exec_init_of_keeping hf hparam

/-- Settles O34: the effect is the call of the hook alone. -/
theorem deinitOnlyCallsTheHook : Obligations.DeinitOnlyCallsTheHook :=
  ⟨by decide, fun _ hf => exec_deinit hf⟩

end Sys2Proof.Machine
end

section
/-! Faults: what raises one, what raising leaves alone, and that an unfaulted codec always steps and a faulted one never
does (60_exceptions.md R172 to R178, R185). -/

namespace Sys2Proof.Machine

/-! ### Only a WRITE or END that ends in `raise` changes `fault`, R172 -/

@[simp] theorem State.sysexStore_fault (b : Byte) (s : State) : (s.sysexStore b).fault = s.fault := by
  rw [sysexStore_eq]

theorem effect_init_fault (s : State) : (effect .init s).fault = s.fault := by
  rw [effect_init]
  split <;> rfl

theorem writeByte_raises_of_fault_ne {b : Byte} {s : State} (h : (s.writeByte b).fault ≠ s.fault) :
    ∃ code, s.writeByte b = s.raiseFault code := by
  rcases s.writeByte_cases b with ⟨code, -, hraise⟩ | ⟨-, -, hstore⟩ | ⟨-, -, hstore⟩
  · exact ⟨code, hraise⟩
  · exact absurd (by rw [hstore, State.sysexStore_fault]) h
  · exact absurd (by rw [hstore, State.nonSysexStore_fault]) h

theorem flush_raises_of_fault_ne {s : State} (h : s.flush.fault ≠ s.fault) : ∃ code, s.flush = s.raiseFault code := by
  rcases s.flush_cases with ⟨-, hraise⟩ | ⟨-, hsend⟩
  · exact ⟨_, hraise⟩
  · exact absurd (by rw [hsend, State.hwWrite_fault]) h

/-- An effect that changes `fault` is a WRITE's or END's, and raising the fault is all that it does. -/
theorem effect_raises_of_fault_ne {i : Instr} {s : State} (h : (effect i s).fault ≠ s.fault) :
    ((∃ b, i = .write b) ∨ i = .endMessage) ∧ ∃ code, effect i s = s.raiseFault code := by
  rcases lifecycle_or_transmit_or_receive i with rfl | rfl | (⟨ty, rfl⟩ | ⟨b, rfl⟩ | rfl) | hreceive
  · exact absurd (effect_init_fault s) h
  · exact absurd s.hwDeInit_fault h
  · exact absurd (by rw [effect_beginInstr, State.beginMessage_fault]) h
  · exact ⟨.inl ⟨b, rfl⟩, writeByte_raises_of_fault_ne h⟩
  · exact ⟨.inr rfl, flush_raises_of_fault_ne h⟩
  · exact absurd (effect_keeps_transmitSide hreceive s).fault h

/-! ### Which fault a WRITE raises, in the order of R178 -/

theorem writeFault_of_idle {s : State} (hA : s.activeType = none) : s.writeFault = some .noTransmission := by
  simp [State.writeFault, hA]

theorem writeFault_of_no_slot {s : State} {t : MessageType} (hA : s.activeType = some t) (hns : t ≠ .sysEx)
    (hslot : 3 ≤ s.txIndex) : s.writeFault = some .txOverrun := by
  simp [State.writeFault, hA, hns, hslot]

theorem writeFault_of_limit {s : State} {t : MessageType} (hA : s.activeType = some t)
    (hroom : t = .sysEx ∨ s.txIndex < 3) (hlimit : s.txIndex = s.params.txIndexLimit) :
    s.writeFault = some .txIndexOverflow := by
  have hslot : ¬(t ≠ .sysEx ∧ 3 ≤ s.txIndex) := fun ⟨hns, h3⟩ => hroom.elim hns (Nat.not_lt.2 h3)
  simp only [State.writeFault, hA, if_neg hslot, if_pos hlimit]

/-- R11, R172: the word is taken, and the fault is all that the WRITE leaves. -/
theorem exec_write_of_fault {s : State} {code : FaultCode} (b : Byte) (hf : s.fault = .none)
    (hF : s.writeFault = some code) : exec (.write b) s = .next (s.takeCommand.raiseFault code) := by
  rw [exec_ok _ hf]
  exact congrArg _ (State.writeByte_of_fault (s := s.takeCommand) b hF)

/-! ### The statements -/

/-- Settles O14: `step` and `exec` both look at `fault` first. -/
theorem faultedCodecIsQuiescent : Obligations.FaultedCodecIsQuiescent :=
  fun _ h => ⟨step_faulted h, fun i => exec_faulted i h⟩

/-- Settles O15: with no word the codec waits, a word without meaning is refused, and a command is performed. -/
theorem unfaultedCodecAlwaysSteps : Obligations.UnfaultedCodecAlwaysSteps := by
  refine fun s hf => ⟨?_, fun i => ⟨_, exec_ok i hf⟩⟩
  cases hc : s.commands with
  | nil => exact ⟨_, stepWithoutCommandWaits s hf hc⟩
  | cons w rest =>
    cases hd : decodeCmd w with
    | error e => exact ⟨_, step_refused hf hc hd⟩
    | ok i => exact ⟨_, (step_command hf hc hd).trans (exec_ok i hf)⟩

/-- Settles O16: `fault` was NONE before, so the effect changed it, and an effect that does so only raises. -/
theorem raisingAFaultChangesNothingElse : Obligations.RaisingAFaultChangesNothingElse := by
  intro i s t h hfault
  obtain ⟨hf, rfl⟩ := (exec_eq_next_iff i s t).1 h
  have hchanged : (effect i s.takeCommand).fault ≠ s.takeCommand.fault := hf.symm ▸ hfault
  obtain ⟨hi, code, hraise⟩ := effect_raises_of_fault_ne hchanged
  exact ⟨hi, by rw [hraise]; rfl, step_faulted hfault⟩

/-- Settles O17: each clause is one row of `writeFault`, and END raises where no message is in progress. -/
theorem protocolViolationsRaiseTheirFault : Obligations.ProtocolViolationsRaiseTheirFault :=
  ⟨fun _ hf hA => ⟨fun b => exec_write_of_fault b hf (writeFault_of_idle hA), exec_endMessage_of_idle hf hA⟩,
    fun _ b _ hf hA hns hslot => exec_write_of_fault b hf (writeFault_of_no_slot hA hns hslot),
    fun _ b _ hf hA hroom hlimit => exec_write_of_fault b hf (writeFault_of_limit hA hroom hlimit),
    rfl, rfl, rfl, rfl⟩

end Sys2Proof.Machine
end

section
/-! The rows of the grammar of command streams, and what a stream that follows it has (70_reset_and_hazards.md R212). -/

namespace Sys2Proof

/-! ### The grammar, R212 -/

/-- The rows of R212's grammar: the phase that each command leads to, with the model's reading of where a clearing
INIT may stand (log 15). -/
inductive StreamPhase.Advances (c : Params) : StreamPhase → Instr → StreamPhase → Prop where
  | read (p : StreamPhase) : Advances c p .read p
  | deinit (p : StreamPhase) : Advances c p .deinit p
  | initKeeping (p : StreamPhase) (hkeep : c.initClearsState = false) : Advances c p .init p
  | initBetween : Advances c .between .init .between
  | beginFixed {t : MessageType} {n : Nat} (hlen : t.lenOf = some n) : Advances c .between t.beginInstr (.fixed n)
  | beginSysEx : Advances c .between (MessageType.beginInstr .sysEx) .sysexStart
  | writeFixed (n : Nat) (b : Byte) : Advances c (.fixed (n + 1)) (.write b) (.fixed n)
  | writeStart : Advances c .sysexStart (.write sysexStartByte) (.sysexBody 1)
  | writeBody (n : Nat) {b : Byte} (hb : b ≠ sysexStopByte) :
      Advances c (.sysexBody n) (.write b) (.sysexBody (n + 1))
  | writeStop {n : Nat} (hroom : n + 1 ≤ c.txIndexLimit) : Advances c (.sysexBody n) (.write sysexStopByte) .sysexEnd
  | endFixed : Advances c (.fixed 0) .endMessage .between
  | endSysEx : Advances c .sysexEnd .endMessage .between

theorem eq_sysEx_of_lenOf_eq_none {t : MessageType} (h : t.lenOf = none) : t = .sysEx := by
  cases t with
  | sysEx => rfl
  | _ => cases h

namespace StreamPhase

variable {c : Params} {p q : StreamPhase} {i : Instr}

theorem advances_of_transmit (h : p.transmit c.txIndexLimit i = some q) : p.Advances c i q := by
  unfold transmit at h
  split at h
  next =>
    split at h
    next t ht =>
      obtain rfl := Instr.eq_of_beginType ht
      split at h
      next n hlen =>
        cases h
        exact .beginFixed hlen
      next hlen =>
        cases h
        obtain rfl := eq_sysEx_of_lenOf_eq_none hlen
        exact .beginSysEx
    next => cases h
  next n b =>
    cases h
    exact .writeFixed n b
  next =>
    cases h
    exact .endFixed
  next b =>
    obtain ⟨rfl, rfl⟩ : b = sysexStartByte ∧ .sysexBody 1 = q := by simpa using h
    exact .writeStart
  next n b =>
    split at h
    next hb =>
      obtain ⟨hroom, rfl⟩ : n + 1 ≤ c.txIndexLimit ∧ .sysexEnd = q := by simpa using h
      exact hb ▸ .writeStop hroom
    next hb =>
      cases h
      exact .writeBody n hb
  next =>
    cases h
    exact .endSysEx
  next => cases h

/-- R212: a stream goes on by a row of the grammar only. -/
theorem advances_of_next (h : p.next c i = some q) : p.Advances c i q := by
  unfold next at h
  split at h
  next =>
    cases h
    exact .read p
  next =>
    cases h
    exact .deinit p
  next =>
    split at h
    next => cases h
    next hplace =>
      cases h
      cases hclear : c.initClearsState with
      | false => exact .initKeeping p hclear
      | true =>
        obtain rfl : p = .between := by simpa [hclear] using hplace
        exact .initBetween
  next => exact advances_of_transmit h

theorem exists_advances_of_run {is : List Instr} {r : StreamPhase} (h : run c p (i :: is) = some r) :
    ∃ q, p.Advances c i q ∧ run c q is = some r := by
  cases hnext : p.next c i with
  | none => simp [run, hnext] at h
  | some q => exact ⟨q, advances_of_next hnext, by rwa [run_cons hnext] at h⟩

/-- R212: a sysex message that is completed has room for its terminator, and so for every byte before it. -/
theorem sysexBody_lt_limit_of_run {n : Nat} {is : List Instr} (h : run c (.sysexBody n) is = some .between) :
    n < c.txIndexLimit := by
  induction is generalizing n with
  | nil => cases h
  | cons i is ih =>
    obtain ⟨q, hstep, hrest⟩ := exists_advances_of_run h
    cases hstep with
    | read | deinit | initKeeping => exact ih hrest
    | writeBody => exact Nat.lt_of_succ_lt (ih hrest)
    | writeStop hroom => exact hroom

/-- R80: every command of the grammar has a command word. -/
theorem Advances.exists_cmdWord (h : p.Advances c i q) : ∃ w, i.cmdWord = some w := by
  cases h with
  | beginFixed | beginSysEx => exact ⟨_, cmdWord_beginInstr _⟩
  | read | deinit | initKeeping | initBetween | writeFixed | writeStart | writeBody | writeStop | endFixed | endSysEx =>
    exact ⟨_, rfl⟩

end StreamPhase

theorem decodeCmd_of_cmdWord {i : Instr} {w : CmdWord} (h : i.cmdWord = some w) : decodeCmd w = .ok i := by
  have hdecode : decode (encode i) = .ok i := decodeOfEncodeIsTheInstruction i rfl
  unfold Instr.cmdWord at h
  split at h
  next w' hw =>
    cases h
    rwa [hw] at hdecode
  next => cases h

end Sys2Proof
end

section
/-! A well-formed command stream runs without a fault: the transmit registers follow the phases of the grammar
(70_reset_and_hazards.md R212). -/

namespace Sys2Proof.Machine

/-! ### The registers in each phase -/

/-- What the transmit registers of the codec hold in a phase of the grammar. -/
def State.AtPhase (s : State) : StreamPhase → Prop
  | .between => True
  | .fixed left => s.activeType ≠ none ∧ s.activeType ≠ some .sysEx ∧ s.txIndex + left ≤ 3
  | .sysexStart => s.activeType = some .sysEx ∧ s.txIndex = 0
  | .sysexBody written => s.activeType = some .sysEx ∧ s.txIndex = written
  | .sysexEnd => s.activeType ≠ none

theorem State.AtPhase.of_eq {s t : State} {p : StreamPhase} (h : s.AtPhase p) (hA : t.activeType = s.activeType)
    (hI : t.txIndex = s.txIndex) : t.AtPhase p := by
  unfold State.AtPhase at h ⊢
  rwa [hA, hI]

/-- R102: a WRITE that does not fault counts its byte and leaves the message in progress. -/
theorem writeByte_counts {s : State} (b : Byte) (hF : s.writeFault = none) :
    (s.writeByte b).activeType = s.activeType ∧ (s.writeByte b).txIndex = s.txIndex + 1 ∧
      (s.writeByte b).fault = s.fault := by
  by_cases hA : s.activeType = some .sysEx
  · rw [State.writeByte_of_sysEx b hF hA]
    exact ⟨s.sysexStore_activeType b, rfl, s.sysexStore_fault b⟩
  · rw [State.writeByte_of_not_sysEx b hF hA]
    exact ⟨rfl, rfl, rfl⟩

theorem flush_fault_of_active {s : State} (hA : s.activeType ≠ none) : s.flush.fault = s.fault := by
  rw [State.flush_of_active hA, State.hwWrite_fault]

/-- A row of the grammar raises no fault where the registers are those of its phase, and leaves those of the next. -/
theorem effect_of_advances {s : State} {p q : StreamPhase} {i : Instr} (h : p.Advances s.params i q)
    (hp : s.AtPhase p) (hlimit : 3 ≤ s.params.txIndexLimit)
    (hroom : ∀ n, p = .sysexBody n → n < s.params.txIndexLimit) :
    (effect i s).AtPhase q ∧ (effect i s).fault = s.fault := by
  cases h with
  | read =>
    have hkept := effect_keeps_transmitSide (.inl rfl) s
    exact ⟨hp.of_eq hkept.activeType hkept.txIndex, hkept.fault⟩
  | deinit => exact ⟨hp.of_eq rfl rfl, rfl⟩
  | initKeeping _ hkeep =>
    rw [effect_init, if_neg (by simp [hkeep])]
    exact ⟨hp.of_eq rfl rfl, rfl⟩
  | initBetween => exact ⟨trivial, effect_init_fault s⟩
  | beginFixed hlen =>
    rw [effect_beginInstr]
    have hlen3 := le_three_of_lenOf_eq_some hlen
    exact ⟨⟨by simp, by simpa using ne_sysEx_of_lenOf_eq_some hlen, by simpa using hlen3⟩, rfl⟩
  | beginSysEx => exact ⟨⟨rfl, rfl⟩, rfl⟩
  | writeFixed n b =>
    obtain ⟨hactive, hns, hleft⟩ := hp
    obtain ⟨t, ht⟩ := Option.ne_none_iff_exists'.1 hactive
    obtain ⟨hA, hI, hfault⟩ := writeByte_counts b (writeFault_eq_none ht (by omega) (by omega))
    have hleft' : (s.writeByte b).txIndex + n ≤ 3 := by omega
    exact ⟨⟨hA ▸ hactive, hA ▸ hns, hleft'⟩, hfault⟩
  | writeStart =>
    obtain ⟨hsys, hidx⟩ := hp
    obtain ⟨hA, hI, hfault⟩ := writeByte_counts sysexStartByte (writeFault_eq_none_of_sysEx hsys (by omega))
    exact ⟨⟨hA.trans hsys, hI.trans (by rw [hidx])⟩, hfault⟩
  | writeBody n hb =>
    obtain ⟨hsys, rfl⟩ := hp
    obtain ⟨hA, hI, hfault⟩ := writeByte_counts _ (writeFault_eq_none_of_sysEx hsys (hroom _ rfl).ne)
    exact ⟨⟨hA.trans hsys, hI⟩, hfault⟩
  | writeStop =>
    obtain ⟨hsys, rfl⟩ := hp
    obtain ⟨hA, -, hfault⟩ := writeByte_counts sysexStopByte (writeFault_eq_none_of_sysEx hsys (hroom _ rfl).ne)
    exact ⟨ne_of_eq_of_ne (hA.trans hsys) (Option.some_ne_none _), hfault⟩
  | endFixed => exact ⟨trivial, flush_fault_of_active hp.1⟩
  | endSysEx => exact ⟨trivial, flush_fault_of_active hp⟩

/-! ### The run -/

theorem runSteps_succ {s t : State} (h : step s = .next t) (k : Nat) : runSteps (k + 1) s = runSteps k t := by
  simp [runSteps, h]

theorem runSteps_of_stream {p : StreamPhase} {is : List Instr} {s : State}
    (hrun : StreamPhase.run s.params p is = some .between) (hp : s.AtPhase p) (hf : s.fault = .none)
    (hlimit : 3 ≤ s.params.txIndexLimit) (hc : s.commands = is.filterMap Instr.cmdWord) :
    ∃ t, runSteps is.length s = .next t ∧ t.fault = .none ∧ t.refused = s.refused ∧ t.commands = [] := by
  induction is generalizing p s with
  | nil => exact ⟨s, rfl, hf, rfl, hc⟩
  | cons i is ih =>
    obtain ⟨q, hadv, hrest⟩ := StreamPhase.exists_advances_of_run hrun
    obtain ⟨w, hw⟩ := hadv.exists_cmdWord
    rw [List.filterMap_cons_some hw] at hc
    have hstep : step s = .next (effect i s.takeCommand) :=
      (step_command hf hc (decodeCmd_of_cmdWord hw)).trans (exec_ok i hf)
    have hroom : ∀ n, p = .sysexBody n → n < s.params.txIndexLimit := by
      rintro n rfl
      exact StreamPhase.sysexBody_lt_limit_of_run hrun
    obtain ⟨hq, hfault⟩ := effect_of_advances (s := s.takeCommand) hadv (hp.of_eq rfl rfl) hlimit hroom
    obtain ⟨t, ht, hft, href, hct⟩ := ih (s := effect i s.takeCommand) (by simpa using hrest) hq (hfault.trans hf)
      (by simpa using hlimit) (by simp [hc])
    exact ⟨t, (runSteps_succ hstep _).trans ht, hft, by simpa using href, hct⟩

/-- Settles O46: between messages nothing is asked of the registers, so every unfaulted state may begin the stream. -/
theorem wellFormedStreamsRunSafely : Obligations.WellFormedStreamsRunSafely :=
  fun _ _ hwf hf hlimit hc => runSteps_of_stream (wellFormedStream_iff.1 hwf) trivial hf hlimit hc

end Sys2Proof.Machine
end

section
/-! The first commands after reset, and the hazards of sending a packet twice and of a packet held back
(70_reset_and_hazards.md R201, R217, R219). -/

namespace Sys2Proof.Machine

/-! ### The packet just sent stays in the buffer, R217 -/

theorem eq_txBuffer_of_hwWrite_trace {s : State} {p : Packet} {ok : Bool}
    (h : s.hwWrite.trace = s.trace ++ [.wr p ok]) : p = s.txBuffer := by
  obtain ⟨rfl, -⟩ : s.txBuffer = p ∧ s.transport.writeAnswer = ok := by simpa using h
  rfl

/-- What a command that sent `p` from `s` leaves: an END in `t` finds `p` in the buffer of a message in progress. -/
structure Resendable (s t : State) (p : Packet) : Prop where
  activeType : t.activeType ≠ none
  txBuffer : t.txBuffer = p
  fault : t.fault = s.fault

theorem flush_resendable {s : State} {p : Packet} {ok : Bool} (h : s.flush.trace = s.trace ++ [.wr p ok]) :
    Resendable s s.flush p := by
  rcases s.flush_cases with ⟨-, hraise⟩ | ⟨hA, hsend⟩
  · simp [hraise] at h
  · rw [hsend] at h ⊢
    exact ⟨hA, (eq_txBuffer_of_hwWrite_trace h).symm, rfl⟩

/-- Of the cases of a WRITE only the auto-flush of R126 sends. -/
theorem writeByte_resendable {s : State} {b : Byte} {p : Packet} {ok : Bool}
    (h : (s.writeByte b).trace = s.trace ++ [.wr p ok]) : Resendable s (s.writeByte b) p := by
  rcases s.writeByte_cases b with ⟨code, -, hraise⟩ | ⟨-, hsys, hstore⟩ | ⟨-, -, hstore⟩
  · simp [hraise] at h
  · rw [hstore] at h ⊢
    rcases s.sysexStore_cases b with ⟨-, -, hsend⟩ | ⟨-, hkeep⟩
    · rw [hsend] at h ⊢
      exact ⟨by simp [hsys], (eq_txBuffer_of_hwWrite_trace h).symm, rfl⟩
    · simp [hkeep] at h
  · simp [hstore] at h

/-- Settles O23: the first command leaves its packet in the buffer of a message in progress, which END sends. -/
theorem endSendsTheSamePacketAgain : Obligations.EndSendsTheSamePacketAgain := by
  intro i s t p ok hf hexec hi htrace
  obtain ⟨-, rfl⟩ := (exec_eq_next_iff i s t).1 hexec
  have hsent : Resendable s.takeCommand (effect i s.takeCommand) p := by
    rcases hi with rfl | ⟨b, rfl⟩
    · exact flush_resendable htrace
    · exact writeByte_resendable htrace
  obtain ⟨hA, rfl, hfault⟩ := hsent
  rw [exec_endMessage_of_active (hfault.trans hf) hA, State.hwWrite, State.takeCommand_trace, htrace, List.append_assoc]
  rfl

/-! ### A packet held back, R219 -/

/-- Settles O31: READ and every row share one effect while bytes are undelivered, the delivery. -/
theorem undeliveredBytesHoldBackPackets : Obligations.UndeliveredBytesHoldBackPackets := by
  intro s p hf hidx
  have hexec : ∀ i, Statements.isReceive i → exec i s = .next s.takeCommand.deliver := fun i hi => by
    rw [exec_ok i hf, effect_receive_of_undelivered (s := s.takeCommand) hi hidx]
  have hleft : (s.rxIndex - 1).val + 1 = s.rxIndex.val := by omega
  exact ⟨_, hexec _ (.inl rfl), hexec _ (.inr ⟨p, rfl⟩), rfl, hleft, rfl, rfl, rfl⟩

/-! ### After reset, R201 -/

/-- R140: with nothing undelivered a READ asks the transport once and records what it answered. -/
theorem readByte_asks_once {s : State} (h0 : s.rxIndex = 0) :
    s.readByte.trace = s.trace ++ [.rd s.transport.readAnswer] ∧ s.readByte.transport = s.transport.afterRead := by
  cases hans : s.transport.readAnswer with
  | none =>
    rw [State.readByte_of_no_packet h0 hans]
    exact ⟨rfl, rfl⟩
  | some p =>
    rw [State.readByte_of_packet h0 hans]
    exact ⟨s.acceptPacket_trace _ p, s.acceptPacket_transport _ p⟩

/-- Settles O3: no message is in progress after reset, and no byte is undelivered. -/
theorem firstCommandsAfterReset : Obligations.FirstCommandsAfterReset := by
  intro c
  have hidle := State.resetWith_activeType c
  obtain ⟨htrace, hport⟩ := readByte_asks_once (s := (State.resetWith c).takeCommand) rfl
  exact ⟨fun b => exec_write_of_fault b rfl (writeFault_of_idle hidle), exec_endMessage_of_idle rfl hidle,
    _, exec_ok .read rfl, htrace, congrArg Transport.calls hport⟩

end Sys2Proof.Machine
end
